-- ==== Sys2Proof/Word.lean ====
section
/-! DEFINITION. The word types of the DMCS (00_scope.md R7). -/

namespace Sys2Proof

/-- A radio register, a strobe code, a TXBUF entry (R7: "Radio registers are 8 bits wide"). -/
abbrev Byte := BitVec 8

/-- A host register, a command word (R61, R91). -/
abbrev Word := BitVec 16

/-- A radio register address, `addr16` (R7, R70). -/
abbrev RadioAddr := BitVec 16

/-- A byte address of the host window (R60: "a 9-bit address, offsets 0x000 to 0x1FF"). -/
abbrev Offset := BitVec 9

end Sys2Proof
end

