-- ==== Sys2Proof/Syntax.lean ====
section
/-! DEFINITION. The instructions (one constructor per row of spec/opcode_table.json), the host's program statements
(30_encoding.md R98, R99) and the moves by which the agents step (00_scope.md R4). -/

namespace Sys2Proof

/-- The MODE operand of INIT_CHIP (R91) and the values of RADIO_STATE (R25): 0 is TX, 1 is RX. -/
inductive RadioMode where
  | tx
  | rx
deriving DecidableEq, Repr, Inhabited

/-- PROFILE[1] (R27): FCC-style, 600 Hz tick; ETSI-style, 100 Hz tick. -/
inductive Region where
  | fcc600
  | etsi100
deriving DecidableEq, Repr, Inhabited

/-- The delay constants (R122: "one of `RAMP_STEP_DELAY(r)` or `PHASE_HOLD_DELAY`"). -/
inductive DelayId where
  | rampStep (r : Region)
  | phaseHold
deriving DecidableEq, Repr, Inhabited

/-- The six commands of R92 and the fourteen internal micro-operations of R97. -/
inductive Instr where
  /-- INIT_CHIP, R140. -/
  | initChip (m : RadioMode)
  /-- CLOSE_CHIP, R141. -/
  | closeChip
  /-- SET_FREQ, R142. -/
  | setFreq
  /-- SEND, R190; `len` is the LEN field. -/
  | send (len : Byte)
  /-- START_CARRIER, R143. -/
  | startCarrier
  /-- STOP_CARRIER, R144. -/
  | stopCarrier
  /-- BusStrobe, R120. -/
  | busStrobe (c : Byte)
  /-- BusWrite, R121; the byte list is not empty in a well-formed instruction. -/
  | busWrite (a : RadioAddr) (bs : List Byte)
  /-- Delay, R122. -/
  | delay (d : DelayId)
  /-- RampUp, R123. -/
  | rampUp
  /-- RampDown, R124. -/
  | rampDown
  /-- WriteOffset, R125; `v` is a signed 16-bit value. -/
  | writeOffset (v : BitVec 16)
  /-- ComputeFreqReg, R128. -/
  | computeFreqReg (f : BitVec 32)
  /-- ProgramFrequency, R131. -/
  | programFrequency (f : BitVec 32)
  /-- MODULATE, R133. -/
  | modulate
  /-- CarrierUp, R134. -/
  | carrierUp
  /-- CarrierDown, R135. -/
  | carrierDown
  /-- TIMER_START, R170. -/
  | timerStart
  /-- TIMER_STOP, R171. -/
  | timerStop
  /-- TICK, R176. -/
  | tick
deriving DecidableEq, Repr, Inhabited

/-- Whether the instruction has a command word (R92); the others are internal (R97: "The host cannot issue them"). -/
def Instr.isCommand : Instr → Bool
  | .initChip _ | .closeChip | .setFreq | .send _ | .startCarrier | .stopCarrier => true
  | .busStrobe _ | .busWrite _ _ | .delay _ | .rampUp | .rampDown | .writeOffset _ | .computeFreqReg _
  | .programFrequency _ | .modulate | .carrierUp | .carrierDown | .timerStart | .timerStop | .tick => false

/-- The width of a host access (R61: "8 or 16 bits wide. No other width exists"). -/
inductive Width where
  | w8
  | w16
deriving DecidableEq, Repr, Inhabited

/-- The statements of a host program that make an access (R98); `r8` is the 8-bit read of 95_test_vectors.md L2.11. -/
inductive HostStmt where
  | w16 (off : Offset) (v : Word)
  | w8 (off : Offset) (v : Byte)
  | r16 (off : Offset)
  | r8 (off : Offset)
  /-- Repeat a 16-bit read until `(value & mask) == want`. -/
  | poll (off : Offset) (mask want : Word)
deriving DecidableEq, Repr, Inhabited

/-- A line of a host program as it is written: the statements of R98, the command mnemonics and the
pseudo-instructions of R99, with operands not yet checked against their ranges. -/
inductive AsmStmt where
  | w16 (off v : Nat)
  | w8 (off v : Nat)
  | r16 (off : Nat)
  | r8 (off : Nat)
  | poll (off mask want : Nat)
  | initChip (m : RadioMode)
  | closeChip
  | setFreq
  | send (n : Nat)
  | startCarrier
  | stopCarrier
  | setf (hz : Nat)
  | prof (xtal region fe : Nat)
  | loadtx (bs : List Nat)
  | waitidle
  | clrerr
deriving DecidableEq, Repr, Inhabited

/-- How the radio bus port completes a transaction (R100). -/
inductive BusResult where
  | ok
  | err
deriving DecidableEq, Repr, Inhabited

/-- One move of one agent (R4), of the `rst` pin (R260), or of one clock cycle in the timed reading (R227). -/
inductive Move where
  /-- The host makes its next access. -/
  | host
  /-- The sequencer performs its next micro-step. -/
  | seq
  /-- The bus responder completes the transaction in flight. -/
  | bus (r : BusResult)
  /-- The timer ticks (untimed reading, R175). -/
  | tick
  /-- A rising edge of `tclk` (timed reading, R174). -/
  | tclk
  /-- One clock cycle (timed reading): a host access if `h`, then a micro-step if `q`, then the edge (R227). -/
  | cycle (h q : Bool)
  /-- The `rst` pin takes this level. -/
  | rst (asserted : Bool)
deriving DecidableEq, Repr, Inhabited

end Sys2Proof
end

