-- ==== Sys2Proof/WellFormed.lean ====
section
/-! DEFINITION. Which instructions and which lines of a host program are well formed. -/

namespace Sys2Proof

/-- R121: the byte list of a BusWrite is not empty. Every other operand is of a width that admits all its values. -/
def Instr.wellFormed : Instr → Bool
  | .busWrite _ bs => !bs.isEmpty
  | .initChip _ | .closeChip | .setFreq | .send _ | .startCarrier | .stopCarrier | .busStrobe _ | .delay _ | .rampUp
  | .rampDown | .writeOffset _ | .computeFreqReg _ | .programFrequency _ | .modulate | .carrierUp | .carrierDown
  | .timerStart | .timerStop | .tick => true

/-- R98, R99: the ranges of the operands. "A command mnemonic with an operand outside its range (`SEND 256`,
`INIT_CHIP XX`) does not assemble." DESIGN CHOICE (log 23): the same of every other line. W16, W8, R16, R8 and POLL with an
offset above 0x1FF or a value or mask wider than the access, SETF of 2^32 or more, and LOADTX of no byte or of a value
above 255 do not assemble either, where the spec does not say whether they are refused or truncated. -/
def AsmStmt.wellFormed : AsmStmt → Bool
  | .w16 off v => off < 512 && v < 65536
  | .w8 off v => off < 512 && v < 256
  | .r16 off | .r8 off => off < 512
  | .poll off mask want => off < 512 && mask < 65536 && want < 65536
  | .send n => n < 256
  | .setf hz => hz < 4294967296
  | .prof xtal region fe => xtal < 2 && region < 2 && fe < 2
  | .loadtx bs => !bs.isEmpty && bs.length ≤ 255 && bs.all (· < 256)
  | .initChip _ | .closeChip | .setFreq | .startCarrier | .stopCarrier | .waitidle | .clrerr => true

end Sys2Proof
end

