-- ==== Sys2Proof/Decode.lean ====
section
/-! DEFINITION. The command word CMD16 (30_encoding.md R91 to R94): decoder, then encoder. -/

namespace Sys2Proof

/-- OP, w[3:0] (R91). -/
def opField (w : Word) : BitVec 4 := w.extractLsb' 0 4

/-- MODE, w[4] (R91, R93). -/
def modeField (w : Word) : BitVec 1 := w.extractLsb' 4 1

/-- RSV, w[7:5] (R91). -/
def rsvField (w : Word) : BitVec 3 := w.extractLsb' 5 3

/-- LEN, w[15:8] (R91, R93). -/
def lenField (w : Word) : Byte := w.extractLsb' 8 8

/-- Why a decoder refuses: the list of illegal words of R94, and a byte sequence shorter than a word. -/
inductive Reject where
  /-- OP 0x0 or 0x7 to 0xF. -/
  | reservedOp (op : BitVec 4)
  /-- RSV is not 0. -/
  | reservedBits
  /-- MODE = 1 with an OP other than INIT_CHIP. -/
  | modeBit
  /-- LEN is not 0 with an OP other than SEND. -/
  | lenBits
  /-- Fewer than two bytes. -/
  | truncated
deriving DecidableEq, Repr

/-- MODE as the operand of INIT_CHIP: 0 = TX, 1 = RX (R91). -/
def modeOfBit (b : BitVec 1) : RadioMode := if b = 0 then .tx else .rx

/-- The instruction `i` for a word whose MODE and LEN must be 0. -/
def decodePlain (w : Word) (i : Instr) : Except Reject Instr :=
  if modeField w ≠ 0 then .error .modeBit
  else if lenField w ≠ 0 then .error .lenBits
  else .ok i

/-- The opcode map of R92 with the conditions of R94. -/
def decodeWord (w : Word) : Except Reject Instr :=
  if rsvField w ≠ 0 then .error .reservedBits
  else
    match (opField w).toNat with
    | 1 => if lenField w ≠ 0 then .error .lenBits else .ok (.initChip (modeOfBit (modeField w)))
    | 2 => decodePlain w .closeChip
    | 3 => decodePlain w .setFreq
    | 4 => if modeField w ≠ 0 then .error .modeBit else .ok (.send (lenField w))
    | 5 => decodePlain w .startCarrier
    | 6 => decodePlain w .stopCarrier
    | _ => .error (.reservedOp (opField w))

/-- A command word laid out as the little-endian host bus carries it (R63): the low byte first. Answers the instruction
and the bytes after it. -/
def decodeBytes : List Byte → Except Reject (Instr × List Byte)
  | lo :: hi :: rest =>
    match decodeWord (hi ++ lo) with
    | .ok i => .ok (i, rest)
    | .error r => .error r
  | [_] | [] => .error .truncated

/-- The two bytes of the word whose low `nbits` bits are those of `w`. -/
def tableBytes (nbits w : Nat) : List Byte :=
  [BitVec.ofNat 8 (w % 2 ^ nbits), BitVec.ofNat 8 (w % 2 ^ nbits / 256)]

/-- What the decoder reads from the `nbits` bits of `w`, every bit above them 0. -/
def decodeTableWord (nbits w : Nat) : Option Instr :=
  match decodeBytes (tableBytes nbits w) with
  | .ok (i, _) => some i
  | .error _ => none

/-- One row of the opcode map of R92. -/
structure CmdRow where
  mnemonic : String
  pattern : Word
  mask : Word
deriving DecidableEq, Repr

/-- The match and mask columns of R92. -/
def cmdTable : List CmdRow :=
  [{ mnemonic := "INIT_CHIP", pattern := 0x0001#16, mask := 0xFFEF#16 },
   { mnemonic := "CLOSE_CHIP", pattern := 0x0002#16, mask := 0xFFFF#16 },
   { mnemonic := "SET_FREQ", pattern := 0x0003#16, mask := 0xFFFF#16 },
   { mnemonic := "SEND", pattern := 0x0004#16, mask := 0x00FF#16 },
   { mnemonic := "START_CARRIER", pattern := 0x0005#16, mask := 0xFFFF#16 },
   { mnemonic := "STOP_CARRIER", pattern := 0x0006#16, mask := 0xFFFF#16 }]

/-- R94: "A word is well-formed exactly when `(w & mask) == match` for one row". -/
def CmdRow.matchesWord (r : CmdRow) (w : Word) : Bool := (w &&& r.mask) == r.pattern

/-- Whether some row of the opcode map matches the word (R94). -/
def wellFormedWord (w : Word) : Bool := cmdTable.any (·.matchesWord w)

/-! ## The encoder -/

/-- The fields of R91 in their places. -/
def cmd16 (len : Byte) (mode : BitVec 1) (op : BitVec 4) : Word := len ++ 0#3 ++ mode ++ op

/-- MODE for an INIT_CHIP operand (R91). -/
def bitOfMode : RadioMode → BitVec 1
  | .tx => 0#1
  | .rx => 1#1

/-- The command word of an instruction (R92); an internal micro-operation has none (R97). -/
def encode : Instr → Option Word
  | .initChip m => some (cmd16 0#8 (bitOfMode m) 0x1#4)
  | .closeChip => some (cmd16 0#8 0#1 0x2#4)
  | .setFreq => some (cmd16 0#8 0#1 0x3#4)
  | .send len => some (cmd16 len 0#1 0x4#4)
  | .startCarrier => some (cmd16 0#8 0#1 0x5#4)
  | .stopCarrier => some (cmd16 0#8 0#1 0x6#4)
  | .busStrobe _ | .busWrite _ _ | .delay _ | .rampUp | .rampDown | .writeOffset _ | .computeFreqReg _
  | .programFrequency _ | .modulate | .carrierUp | .carrierDown | .timerStart | .timerStop | .tick => none

end Sys2Proof
end

