-- ==== Sys2Proof/Config.lean ====
section
/-! DEFINITION. What an implementation fixes (the parameters of 00_scope.md R6) and the free values. -/

namespace Sys2Proof

/-- A rational constant, `num / den` (R6: K1 and K2 are positive rationals). -/
structure Ratio where
  num : Nat
  den : Nat
deriving DecidableEq, Repr, Inhabited

/-- A value for each setting of one profile bit: `zero` for the bit clear, `one` for the bit set. -/
structure Per (α : Type) where
  zero : α
  one : α
deriving DecidableEq, Repr, Inhabited

/-- The value for the setting `b` of the bit. -/
def Per.sel {α : Type} (p : Per α) (b : Bool) : α :=
  match b with
  | false => p.zero
  | true => p.one

/-- A value for each profile, by the crystal, then the region, then the front-end bit. -/
abbrev PerProfile (α : Type) := Per (Per (Per α))

/-- The value for the profile whose PROFILE[2:0] is `p`. -/
def PerProfile.sel {α : Type} (v : PerProfile α) (p : BitVec 3) : α :=
  ((Per.sel v (p.getLsbD 0)).sel (p.getLsbD 1)).sel (p.getLsbD 2)

/-- FREQ_ARITH (R129). -/
inductive FreqArith where
  | exact
  | opaqueFn
deriving DecidableEq, Repr, Inhabited

/-- TICK_GATING (R6, R176). -/
inductive TickGating where
  | gated
  | literal
deriving DecidableEq, Repr, Inhabited

/-- The two readings of time (R275). -/
inductive Reading where
  | untimed
  | timed
deriving DecidableEq, Repr, Inhabited

/-- The two products of the frequency formula (R129: the argument `which` of `FA`). -/
inductive FreqTerm where
  | k1
  | k2
deriving DecidableEq, Repr, Inhabited

/-- The implementation parameters of R6, and those of 92_eei_decisions.md D50 and D51, as data. Delays and bus times are
durations in `tclk` periods (log 11). `RAMP_N` is the length of the ramp table. -/
structure Params where
  /-- `K1(x)` and `K2(x)`, by the crystal. -/
  k1 : Per Ratio
  k2 : Per Ratio
  freqArith : FreqArith
  offsetNeutral : PerProfile (BitVec 16)
  offsetLow : PerProfile (BitVec 16)
  offsetHigh : PerProfile (BitVec 16)
  /-- `RAMP_TABLE(r)`, by the region. -/
  rampTable : Per (List Byte)
  /-- `RAMP_STEP_DELAY(r)`, by the region. -/
  rampStepDelay : Per Nat
  phaseHoldDelay : PerProfile Nat
  /-- `F_TCLK`, in Hz. -/
  fTclk : Nat
  /-- `TICK_PERIOD(r)`, by the region. -/
  tickPeriod : Per (BitVec 16)
  tickSeed : BitVec 16
  txTable : List (RadioAddr × Byte)
  rxTable : List (RadioAddr × Byte)
  addrPa : RadioAddr
  addrFreqOff1 : RadioAddr
  addrFreqOff0 : RadioAddr
  addrFreq2 : RadioAddr
  addrFreq1 : RadioAddr
  addrFreq0 : RadioAddr
  strobeSres : Byte
  strobeSidle : Byte
  strobeStx : Byte
  /-- `CARRIER_STROBES`: `true` is ON. -/
  carrierStrobes : Bool
  /-- `DMCS_BASE`, the address of the host window in the host's space (R235, 92_eei_decisions.md D50). -/
  dmcsBase : Nat
  /-- `t_W`, the time of one write on the bus port (92_eei_decisions.md D44, D51). -/
  tWrite : Nat
  /-- `t_S`, the time of one strobe on the bus port. -/
  tStrobe : Nat
  tickGating : TickGating
  reading : Reading
deriving DecidableEq, Repr, Inhabited

/-- The constraints R6 puts on the parameters: K1 and K2 positive, one `RAMP_N >= 1` for both regions, each period at
least 2, a non-zero seed below each period, and the offset pair at consecutive addresses (R72, R73). -/
abbrev Params.wf (p : Params) : Prop :=
  (∀ x : Bool, 0 < (p.k1.sel x).num ∧ 0 < (p.k1.sel x).den ∧ 0 < (p.k2.sel x).num ∧ 0 < (p.k2.sel x).den) ∧
  1 ≤ p.rampTable.zero.length ∧ p.rampTable.zero.length = p.rampTable.one.length ∧
  (∀ r : Bool, 2 ≤ (p.tickPeriod.sel r).toNat ∧ p.tickSeed.toNat < (p.tickPeriod.sel r).toNat) ∧
  p.tickSeed ≠ 0 ∧ p.addrFreqOff0 = p.addrFreqOff1 + 1

namespace Config

/-- FREE VALUE: the platform's parameters (R6: "None of their values is given in the source"). Log 1. -/
opaque platform : Params

/-- FREE VALUE: the product-and-truncate of R129 under an opaque FREQ_ARITH, a function of the crystal, the term and
the operand "of which a model assumes only that it depends on its arguments alone". Log 5. -/
opaque freqArithFn : Bool → FreqTerm → Int → Int

/-- FREE VALUE: what the TXBUF byte of an index reads as while nothing has written it, after F_UNWRITTEN is recorded; the
first argument numbers the block resets, so that the value is fixed from one to the next (R67). Log 6. -/
opaque freeByte : Nat → Nat → Byte

/-- FREE VALUE: the agent that moves when nothing is scheduled. Log 2. -/
opaque freeMove : Nat → Move

/-- FREE VALUE: the statement the host issues when its program is at an end. Log 3. -/
opaque freeHost : Nat → HostStmt

/-- The illustrative profile EX of 95_test_vectors.md section 0; its register tables, delays, bus times and base address,
which EX does not give, are small values of the model's. Nothing of the machine uses it: it is for tests and
witnesses. -/
def exampleEX : Params where
  k1 := { zero := { num := 128, den := 15625 }, one := { num := 512, den := 78125 } }
  k2 := { zero := { num := 1, den := 4 }, one := { num := 1, den := 4 } }
  freqArith := .exact
  offsetNeutral := constProfile 0x0000#16
  offsetLow := constProfile 0xFF9C#16
  offsetHigh := constProfile 0x0064#16
  rampTable := { zero := [0x03#8, 0x20#8, 0x3F#8], one := [0x03#8, 0x20#8, 0x3F#8] }
  rampStepDelay := { zero := 2, one := 3 }
  phaseHoldDelay := constProfile 4
  fTclk := 600000
  tickPeriod := { zero := 1000#16, one := 6000#16 }
  tickSeed := 50#16
  txTable := [(0x0010#16, 0xA1#8)]
  rxTable := [(0x0010#16, 0xB2#8), (0x2F05#16, 0x07#8)]
  addrPa := 0x002B#16
  addrFreqOff1 := 0x2F0A#16
  addrFreqOff0 := 0x2F0B#16
  addrFreq2 := 0x2F0C#16
  addrFreq1 := 0x2F0D#16
  addrFreq0 := 0x2F0E#16
  strobeSres := 0x30#8
  strobeSidle := 0x36#8
  strobeStx := 0x35#8
  carrierStrobes := true
  dmcsBase := 0x0400
  tWrite := 2
  tStrobe := 1
  tickGating := .gated
  reading := .untimed
where
  /-- The same value for every profile. -/
  constProfile {α : Type} (v : α) : PerProfile α :=
    { zero := { zero := { zero := v, one := v }, one := { zero := v, one := v } },
      one := { zero := { zero := v, one := v }, one := { zero := v, one := v } } }

end Config

end Sys2Proof
end

