-- ==== Sys2Proof/Machine/State.lean ====
section
/-! DEFINITION. The state of the DMCS (10_state.md) as plain data, the reasons a step can stop, and the reset state. -/

namespace Sys2Proof.Machine

/-- SYS_STATE (R23), the transmission state machine's state. -/
inductive SysState where
  | idle
  | txStart
  | txWaiting
  | txProcessing
  | txEnd
deriving DecidableEq, Repr, Inhabited

/-- CHIP_MODE (R24). -/
inductive ChipMode where
  | uninit
  | txReady
  | rxReady
  | idle
deriving DecidableEq, Repr, Inhabited

/-- A radio bus transaction (R100). -/
inductive BusTxn where
  | strobe (c : Byte)
  | write (a : RadioAddr) (bs : List Byte)
deriving DecidableEq, Repr, Inhabited

/-- An event of HIST (R9): `S(c)`, `W(a; bs)`, `D(d)`, `FE(pa, lna)`, `IRQEN(v)` and `T`. -/
inductive Event where
  | strobe (c : Byte)
  | write (a : RadioAddr) (bs : List Byte)
  | delay (d : DelayId)
  | frontEnd (pa lna : Bool)
  | irqEn (v : Bool)
  | tick
deriving DecidableEq, Repr, Inhabited

/-- The model-level faults (R232). -/
inductive ModelFault where
  | bus
  | freqRange
  | cursorOverrun
  | unwritten
  | internal
deriving DecidableEq, Repr, Inhabited

/-- FAULTS (R40): the set of model-level faults recorded, one flag for each name of R232. -/
structure FaultSet where
  bus : Bool
  freqRange : Bool
  cursorOverrun : Bool
  unwritten : Bool
  internal : Bool
deriving DecidableEq, Repr, Inhabited

/-- The empty FAULTS. -/
def FaultSet.empty : FaultSet :=
  { bus := false, freqRange := false, cursorOverrun := false, unwritten := false, internal := false }

/-- One statement of the pseudocode that the sequencer still has to run. SEQ (R21) is the list of them (log 4). -/
inductive Micro where
  /-- A call of an internal micro-operation (R97). -/
  | op (i : Instr)
  /-- `BusWrite(ADDR_FREQk, [q[8k+7:8k]])`, R131. -/
  | freqByte (k : Fin 3)
  /-- `FREQ_REG <- q`, R131. -/
  | setFreqReg
  /-- `PA_EN <- v`, R140. -/
  | setPaEn (v : Bool)
  /-- `LNA_EN <- v`, R140. -/
  | setLnaEn (v : Bool)
  /-- `HIST <- HIST ++ [FE(PA_EN, LNA_EN)]`, R140. -/
  | recordFe
  /-- `RX_IRQ_EN <- 1`, R140. -/
  | setRxIrqEn
  /-- `HIST <- HIST ++ [IRQEN(1)]`, R140. -/
  | recordIrqEn
  /-- `RADIO_STATE <- m`, R140. -/
  | setRadioState (m : RadioMode)
  /-- `CHIP_MODE <- m`, R140, R141. -/
  | setChipMode (m : ChipMode)
  /-- `OFFSET_SEL <- v`, R133. -/
  | setOffsetSel (v : Bool)
  /-- `MOD_COUNT <- (MOD_COUNT + 1) mod 2^16`, R133. -/
  | incModCount
  /-- `TMR_COUNT <- v`, R170, R171. -/
  | setTmrCount (v : BitVec 16)
  /-- `TMR_ARMED <- 1`, R170. -/
  | setArmed
  /-- `SYS_STATE <- v`, R190, R195. -/
  | setSysState (v : SysState)
  /-- DISPATCH, R197. -/
  | dispatch
  /-- `BIT_INDEX <- 0`, R191. -/
  | clearBitIndex
  /-- `BIT_TOTAL <- 8 * zext_11(CUR_LEN)`, R191. -/
  | setBitTotal
  /-- The last statement of TXSTART_BODY: TxEnd if BIT_TOTAL = 0, else TxWaiting, R191. -/
  | leaveTxStart
  /-- The head of TXPROC_BODY: the cursor test, the bit and the call of MODULATE, R194. -/
  | processBit
  /-- `BIT_INDEX <- BIT_INDEX + 1`, R194. -/
  | incBitIndex
  /-- The last statement of TXPROC_BODY: TxEnd if BIT_INDEX = BIT_TOTAL, else TxWaiting, R194. -/
  | leaveTxProcessing
  /-- `BUSY <- 0`, the last statement of every command (R21). -/
  | clearBusy
  /-- `fault F_X` as a statement of its own (R8): R128, R195. -/
  | recordFault (f : ModelFault)
deriving DecidableEq, Repr

/-- TXBUF as cells (index, byte), indices strictly rising and below 255; an unlisted byte holds no value (R38). -/
abbrev Memory := List Host.Cell

/-- Everything the spec gives the machine (10_state.md, R45), its parameters (00_scope.md R6), what the spec's
pseudocode implies, and the model's own schedule. INVENTORY.md lists each field's rule and reset value. -/
structure State where
  /-- The platform's parameters, R6. No step changes them. -/
  cfg : Params
  /-- The model's own: the moves scheduled next (log 2). -/
  script : List Move
  /-- The model's own: the statements the host has still to issue (log 3). -/
  hostProg : List HostStmt
  /-- The model's own: the counter that free moves and accesses are drawn with (log 2, log 3). -/
  draws : Nat
  /-- The model's own: how many block resets there were, which names the values of unwritten bytes (log 6). -/
  resets : Nat
  /-- The `rst` pin, R5. -/
  rst : Bool
  /-- The host port's read data: the value of the last read, R69. -/
  rdata : Word
  /-- BUSY, R22. -/
  busy : Bool
  /-- SEQ, R21. -/
  seq : List Micro
  /-- The bus transaction in flight, R43. -/
  bus : Option BusTxn
  /-- The `tclk` edges a running delay still holds the sequencer for (timed reading), R122. -/
  hold : Nat
  /-- The `tclk` edges the transaction in flight still takes on the port (timed reading), R275. -/
  busWait : Nat
  /-- The value `q` that ComputeFreqReg returned, R128. -/
  freqQ : BitVec 24
  /-- The latches of R39. -/
  curOp : BitVec 4
  curMode : BitVec 1
  curLen : Byte
  profL : BitVec 3
  freqL : BitVec 32
  tmrPeriodL : BitVec 16
  /-- SYS_STATE, R23. -/
  sysState : SysState
  /-- CHIP_MODE, R24. -/
  chipMode : ChipMode
  /-- RADIO_STATE, R25. -/
  radioState : RadioMode
  /-- CMD, R26. -/
  cmd : Word
  /-- PROFILE, R27. -/
  profile : Word
  /-- FREQ, R28. -/
  freq : BitVec 32
  /-- ERR, R30. -/
  err : Word
  /-- BIT_INDEX and BIT_TOTAL, R31, R32. -/
  bitIndex : BitVec 11
  bitTotal : BitVec 11
  /-- OFFSET_SEL, R33. -/
  offsetSel : Bool
  /-- MOD_COUNT, R34. -/
  modCount : BitVec 16
  /-- FREQ_REG, R35. -/
  freqReg : BitVec 24
  /-- The output ports that FE_OUT mirrors, R36. -/
  paEn : Bool
  lnaEn : Bool
  rxIrqEn : Bool
  /-- TMR_ARMED and TMR_COUNT, R37. -/
  tmrArmed : Bool
  tmrCount : BitVec 16
  /-- TXBUF, R38. -/
  txbuf : Memory
  /-- HIST, R9, R40. -/
  hist : List Event
  /-- FAULTS, R40. -/
  faults : FaultSet
deriving DecidableEq, Repr

/-- The reasons a run can stop. The model-level faults of R232 are NOT among them: they are recorded in FAULTS and the
machine goes on. -/
inductive Fault where
  /-- Raised by the sequencer when DISPATCH reads SYS_STATE = Idle, for which R190 gives no arm. Safe: it stops, and no
  run reaches it, since SEND writes TxStart first (log 13). -/
  | dispatchIdle
deriving DecidableEq, Repr

/-- The reasons an instruction has no meaning. -/
inductive Refusal where
  /-- Raised by exec's arms for an instruction with no meaning yet. Safe: it stops. -/
  | notModelled (mnemonic : String)
  /-- Raised by BusWrite with no data byte, which R121 ("a non-empty byte list") and R100 ("one or more data bytes")
  exclude. Safe: it stops (log 14). -/
  | emptyBusWrite
deriving DecidableEq, Repr

/-- The outcome of an instruction or a step. -/
abbrev Result := Host.Outcome State Fault Refusal

/-- Block reset (R260): every element of R45 at its reset value, on the platform whose parameters are unknown (log 1),
with nothing scheduled (log 2, log 3) and the fields the spec gives no value at 0 (log 9, log 10, log 12). -/
def State.reset : State where
  cfg := Config.platform
  script := []
  hostProg := []
  draws := 0
  resets := 0
  rst := false
  rdata := 0#16
  busy := false
  seq := []
  bus := none
  hold := 0
  busWait := 0
  freqQ := 0#24
  curOp := 0#4
  curMode := 0#1
  curLen := 0#8
  profL := 0#3
  freqL := 0#32
  tmrPeriodL := 0#16
  sysState := .idle
  chipMode := .uninit
  radioState := .tx
  cmd := 0#16
  profile := 0#16
  freq := 0#32
  err := 0#16
  bitIndex := 0#11
  bitTotal := 0#11
  offsetSel := false
  modCount := 0#16
  freqReg := 0#24
  paEn := false
  lnaEn := false
  rxIrqEn := false
  tmrArmed := false
  tmrCount := 0#16
  txbuf := []
  hist := []
  faults := FaultSet.empty

end Sys2Proof.Machine
end

