-- ==== Sys2Proof/Machine/Flags.lean ====
section
/-! DEFINITION. ERR, FAULTS and the status views (10_state.md R29, R30, R36; 60_exceptions.md R220 to R232). `raise` and
`fault` are all the exception handling there is: nothing is saved and control is not transferred (R228). -/

namespace Sys2Proof.Machine

/-- The error and event codes (R221). -/
inductive ErrFlag where
  | illegalOp
  | mode
  | busyWrite
  | freqRange
  | tickAbsorbed
  | busFault
  | access
  | cursorOverrun
deriving DecidableEq, Repr

/-- "Each code is its ERR bit number" (R221). -/
def ErrFlag.code : ErrFlag → Nat
  | .illegalOp => 0
  | .mode => 1
  | .busyWrite => 2
  | .freqRange => 3
  | .tickAbsorbed => 4
  | .busFault => 5
  | .access => 6
  | .cursorOverrun => 7

/-- The ERR word with only this flag set. -/
def ErrFlag.bit (e : ErrFlag) : Word := 1#16 <<< e.code

/-- `raise E_X` (R220): ERR[bit(X)] <- 1. -/
def State.raise (s : State) (e : ErrFlag) : State := { s with err := s.err ||| e.bit }

/-- The write-one-to-clear of ERR (R30, R69): "reserved bits stay 0". -/
def clearErrBits (err v : Word) : Word := err &&& ~~~v &&& 0x00FF#16

/-- FAULTS with one more fault; a fault already recorded stays (R232). -/
def FaultSet.add (f : FaultSet) : ModelFault → FaultSet
  | .bus => { f with bus := true }
  | .freqRange => { f with freqRange := true }
  | .cursorOverrun => { f with cursorOverrun := true }
  | .unwritten => { f with unwritten := true }
  | .internal => { f with internal := true }

/-- Whether the fault is recorded. -/
def FaultSet.has (f : FaultSet) : ModelFault → Bool
  | .bus => f.bus
  | .freqRange => f.freqRange
  | .cursorOverrun => f.cursorOverrun
  | .unwritten => f.unwritten
  | .internal => f.internal

/-- `fault F_X` (R8, R232). -/
def State.recordFault (s : State) (f : ModelFault) : State := { s with faults := s.faults.add f }

/-- SYS_STATE as its three bits (R23). -/
def SysState.bits : SysState → BitVec 3
  | .idle => 0#3
  | .txStart => 1#3
  | .txWaiting => 2#3
  | .txProcessing => 3#3
  | .txEnd => 4#3

/-- CHIP_MODE as its two bits (R24). -/
def ChipMode.bits : ChipMode → BitVec 2
  | .uninit => 0#2
  | .txReady => 1#2
  | .rxReady => 2#2
  | .idle => 3#2

/-- STATUS (R29): every field at one instant. -/
def State.statusWord (s : State) : Word :=
  0#7 ++ BitVec.ofBool s.offsetSel ++ BitVec.ofBool s.tmrArmed ++ bitOfMode s.radioState ++ s.chipMode.bits ++
    s.sysState.bits ++ BitVec.ofBool s.busy

/-- FE_OUT (R36). -/
def State.feOutWord (s : State) : Word :=
  0#13 ++ BitVec.ofBool s.rxIrqEn ++ BitVec.ofBool s.lnaEn ++ BitVec.ofBool s.paEn

end Sys2Proof.Machine
end

