-- ==== Sys2Proof/Machine/Operands.lean ====
section
/-! DEFINITION. The operands the sequencer reads: the latched profile and its parameters (40_config_frequency.md), the
frequency formula (R128, R129) and the bit at the cursor (R193). -/

namespace Sys2Proof.Machine

/-! ## TXBUF as memory (R38) -/

/-- The byte at index `k`, or no value. -/
def Memory.read : Memory → Nat → Option Byte
  | [], _ => none
  | c :: m, k => if c.1 = k then some c.2 else Memory.read m k

/-- The memory with the byte at index `k` set, its cells kept in rising order. -/
def Memory.write : Memory → Nat → Byte → Memory
  | [], k, b => [(k, b)]
  | c :: m, k, b =>
    if k < c.1 then (k, b) :: c :: m
    else if c.1 = k then (k, b) :: m
    else c :: Memory.write m k b

/-- The canonical form: indices strictly rising, each that of one of the 255 bytes. -/
abbrev Memory.wf (m : Memory) : Prop := m.Pairwise (fun a b => a.1 < b.1) ∧ ∀ c ∈ m, c.1 < 255

/-- A read of TXBUF[k]. A byte that holds no value records F_UNWRITTEN (R38, R193) and is read as a free value, the
same on every read until a write or a block reset (R67, log 6). -/
def readTx (k : Nat) (s : State) : Byte × State :=
  match s.txbuf.read k with
  | some b => (b, s)
  | none => (Config.freeByte s.resets k, s.recordFault .unwritten)

/-- The index of the byte that holds bit `i`, `i >> 3` (R193). -/
def bitByteIndex (i : BitVec 11) : Nat := i.toNat >>> 3

/-- Bit `7 - (i & 7)` of a byte (R193: MSB first). -/
def bitOfByte (b : Byte) (i : BitVec 11) : Bool := b.getLsbD (7 - (i.toNat &&& 7))

/-! ## The latched profile (R27, R39) -/

/-- `x = PROF_L[0]`, the crystal: `true` is XTAL40. -/
def State.xtal (s : State) : Bool := s.profL.getLsbD 0

/-- `r = PROF_L[1]`, the region, as the index of the parameters: `true` is ETSI100. -/
def State.regionBit (s : State) : Bool := s.profL.getLsbD 1

/-- The region by name. -/
def State.region (s : State) : Region := if s.regionBit then .etsi100 else .fcc600

/-- `fe = PROF_L[2]`, whether a front-end is present. -/
def State.frontEnd (s : State) : Bool := s.profL.getLsbD 2

/-- `RAMP_TABLE(r)`, index 0 first. -/
def State.rampTable (s : State) : List Byte := s.cfg.rampTable.sel s.regionBit

/-- The offset states (R126) for the latched profile. -/
def State.offsetNeutral (s : State) : BitVec 16 := s.cfg.offsetNeutral.sel s.profL
def State.offsetLow (s : State) : BitVec 16 := s.cfg.offsetLow.sel s.profL
def State.offsetHigh (s : State) : BitVec 16 := s.cfg.offsetHigh.sel s.profL

/-- `TICK_PERIOD(r)`. -/
def State.tickPeriod (s : State) : BitVec 16 := s.cfg.tickPeriod.sel s.regionBit

/-- The value of a delay constant, in `tclk` periods (log 11). -/
def State.delayLength (s : State) : DelayId → Nat
  | .rampStep .fcc600 => s.cfg.rampStepDelay.zero
  | .rampStep .etsi100 => s.cfg.rampStepDelay.one
  | .phaseHold => s.cfg.phaseHoldDelay.sel s.profL

/-- The time a transaction takes on the port, `t_S` or `t_W` (92_eei_decisions.md D44), in `tclk` periods. -/
def State.busTime (s : State) : BusTxn → Nat
  | .strobe _ => s.cfg.tStrobe
  | .write _ _ => s.cfg.tWrite

/-- `busWait` after a transaction is issued: the timed reading counts the port's time, the untimed one nothing (R275). -/
def State.busWaitAfter (s : State) (t : BusTxn) : Nat :=
  match s.cfg.reading with
  | .untimed => s.busWait
  | .timed => s.busTime t

/-- The delay after each ramp write, `RAMP_STEP_DELAY(r)`. -/
def State.rampDelay (s : State) : DelayId := .rampStep s.region

/-- The register table of a mode (R140). -/
def State.modeTable (s : State) : RadioMode → List (RadioAddr × Byte)
  | .tx => s.cfg.txTable
  | .rx => s.cfg.rxTable

/-! ## The frequency formula (R128, R129) -/

/-- `trunc0(k * v)`: the product truncated toward zero (R8, 90_conflicts.md C2). -/
def trunc0Mul (k : Ratio) (v : Int) : Int := (k.num * v).tdiv k.den

/-- One product-and-truncate of the formula, under the setting of FREQ_ARITH (R129). -/
def freqProduct (p : Params) (x : Bool) (t : FreqTerm) (v : Int) : Int :=
  match p.freqArith with
  | .opaqueFn => Config.freqArithFn x t v
  | .exact =>
    match t with
    | .k1 => trunc0Mul (p.k1.sel x) v
    | .k2 => trunc0Mul (p.k2.sel x) v

/-- `q = A - B`, the exact integer, for the crystal `x`, the neutral offset and the frequency (R128). -/
def freqInt (p : Params) (x : Bool) (neutral : BitVec 16) (f : BitVec 32) : Int :=
  freqProduct p x .k1 f.toNat - freqProduct p x .k2 neutral.toInt

/-- Whether `q` is in [0, 2^24) (R128). -/
def freqInRange (q : Int) : Bool := 0 ≤ q && q < 16777216

/-- `q mod 2^24`, the value written (R128). -/
def freqWord (q : Int) : BitVec 24 := BitVec.ofInt 24 q

/-- `q` for the frequency `f` under the latched profile. -/
def State.freqInt (s : State) (f : BitVec 32) : Int := Machine.freqInt s.cfg s.xtal s.offsetNeutral f

/-- The `k`-th byte of the frequency value: 0 is the LSB (R131). -/
def freqByteOf (q : BitVec 24) (k : Fin 3) : Byte := q.extractLsb' (8 * k.val) 8

/-- ADDR_FREQk (R131). -/
def freqAddr (p : Params) (k : Fin 3) : RadioAddr :=
  match k with
  | 0 => p.addrFreq0
  | 1 => p.addrFreq1
  | 2 => p.addrFreq2

/-- The two bytes of an offset, high byte first (R125, R73). -/
def offsetBytes (v : BitVec 16) : List Byte := [v.extractLsb' 8 8, v.extractLsb' 0 8]

end Sys2Proof.Machine
end

