-- ==== Sys2Proof/Machine/Ops.lean ====
section
/-! DEFINITION. The shared operations: the event history, SEQ, the radio bus port, and the acceptance of a command
(20_memory.md, 30_encoding.md R90, 40_config_frequency.md R120 to R122). -/

namespace Sys2Proof.Machine

/-- `HIST <- HIST ++ [e]` (R9, R40). -/
def State.record (s : State) (e : Event) : State := { s with hist := s.hist ++ [e] }

/-- Statements placed before the rest of SEQ (R21). -/
def State.before (s : State) (ms : List Micro) : State := { s with seq := ms ++ s.seq }

/-- An error and the model fault of the same event, recorded together: BusStrobe and BusWrite are each "one atomic
micro-step" (R8), and its completion records both. -/
def State.raiseFault (s : State) (e : ErrFlag) (f : ModelFault) : State := (s.raise e).recordFault f

/-- The event that records a transaction (R9). -/
def BusTxn.event : BusTxn → Event
  | .strobe c => .strobe c
  | .write a bs => .write a bs

/-- The micro-operation that issues a transaction. -/
def BusTxn.instr : BusTxn → Instr
  | .strobe c => .busStrobe c
  | .write a bs => .busWrite a bs

/-- The issue half of R120 and R121: HIST is extended and the transaction is in flight. While another is in flight the
micro-operation waits, since "there is never more than one in flight" (R77). Log 8. -/
def busIssue (t : BusTxn) (s : State) : Result :=
  if s.bus.isSome then .next (s.before [.op t.instr])
  else .next { s.record t.event with bus := some t, busWait := s.busWaitAfter t }

/-- The completion half of R120 and R121: "execution continues with the next micro-step" after an `err` too. -/
def busComplete (r : BusResult) (s : State) : State :=
  match r with
  | .ok => { s with bus := none }
  | .err => { s.raiseFault .busFault .bus with bus := none }

/-- R95: the CHIP_MODE values in which a command is admitted. -/
def admitted : ChipMode → Instr → Bool
  | _, .initChip _ | _, .closeChip => true
  | .txReady, .setFreq | .rxReady, .setFreq => true
  | .uninit, .setFreq | .idle, .setFreq => false
  | .txReady, .send _ | .txReady, .startCarrier | .txReady, .stopCarrier => true
  | .uninit, .send _ | .uninit, .startCarrier | .uninit, .stopCarrier => false
  | .rxReady, .send _ | .rxReady, .startCarrier | .rxReady, .stopCarrier => false
  | .idle, .send _ | .idle, .startCarrier | .idle, .stopCarrier => false
  | _, .busStrobe _ | _, .busWrite _ _ | _, .delay _ | _, .rampUp | _, .rampDown | _, .writeOffset _
  | _, .computeFreqReg _ | _, .programFrequency _ | _, .modulate | _, .carrierUp | _, .carrierDown
  | _, .timerStart | _, .timerStop | _, .tick => false

/-- The latches and CMD as R90 writes them at acceptance of the word `w`. -/
def State.latch (s : State) (w : Word) : State :=
  { s with
    cmd := w
    curOp := opField w
    curMode := modeField w
    curLen := lenField w
    profL := s.profile.extractLsb' 0 3
    freqL := s.freq
    busy := true }

/-- The command `i` with word `w`, presented to the block (R90, R95, R96): dropped while BUSY = 1, refused where
CHIP_MODE does not admit it, and otherwise accepted, with SEQ at the start of the command's program, which reads the
latches. Acceptance is one atomic host step; the program's first micro-step is a later sequencer step. -/
def present (i : Instr) (w : Word) (program : State → List Micro) (s : State) : Result :=
  if s.busy then .next (s.raise .busyWrite)
  else if !admitted s.chipMode i then .next (s.raise .mode)
  else .next { s.latch w with seq := program (s.latch w) }

end Sys2Proof.Machine
end

