-- ==== Sys2Proof/Machine/Commands.lean ====
section
/-! DEFINITION. The six host commands (40_config_frequency.md R140 to R144, 42_tx_state_machine.md R190): the program
each one places on SEQ at acceptance, and its meaning, which is that acceptance (R90). -/

namespace Sys2Proof.Machine

/-- CHIP_MODE after an INIT_CHIP of the mode (R140). -/
def readyMode : RadioMode → ChipMode
  | .tx => .txReady
  | .rx => .rxReady

/-- The writes of a register table, one byte each, in list order (R140). -/
def tableWrites (t : List (RadioAddr × Byte)) : List Micro := t.map fun e => .op (.busWrite e.1 [e.2])

/-- The front-end lines of R140, with a front-end present. -/
def frontEndWrites (fe : Bool) (m : RadioMode) : List Micro :=
  if fe then [.setPaEn (m == .tx), .setLnaEn (m == .rx), .recordFe] else []

/-- The packet interrupt's enable of R140, in RX mode. -/
def rxIrqWrites : RadioMode → List Micro
  | .tx => []
  | .rx => [.setRxIrqEn, .recordIrqEn]

/-- INIT_CHIP, R140. -/
def initChipProgram (m : RadioMode) (s : State) : List Micro :=
  [.op (.busStrobe s.cfg.strobeSres), .op (.busStrobe s.cfg.strobeSidle)] ++ tableWrites (s.modeTable m) ++
    [.op (.programFrequency s.freqL)] ++ frontEndWrites s.frontEnd m ++ rxIrqWrites m ++
    [.setRadioState m, .setChipMode (readyMode m), .clearBusy]

/-- CLOSE_CHIP, R141. -/
def closeChipProgram (s : State) : List Micro := [.op (.busStrobe s.cfg.strobeSidle), .setChipMode .idle, .clearBusy]

/-- SET_FREQ, R142. -/
def setFreqProgram (s : State) : List Micro := [.op (.programFrequency s.freqL), .clearBusy]

/-- SEND, R190: SYS_STATE <- TxStart, then the loop, which DISPATCH carries on (R197). -/
def sendProgram : List Micro := [.setSysState .txStart, .dispatch]

/-- START_CARRIER, R143. -/
def startCarrierProgram : List Micro := [.op .carrierUp, .clearBusy]

/-- STOP_CARRIER, R144. -/
def stopCarrierProgram : List Micro := [.op .carrierDown, .clearBusy]

/-- The pseudocode a command runs, which SEQ holds after acceptance (R90: "the sequencer now runs the command's rule"). -/
def commandProgram (i : Instr) (s : State) : List Micro :=
  match i with
  | .initChip m => initChipProgram m s
  | .closeChip => closeChipProgram s
  | .setFreq => setFreqProgram s
  | .send _ => sendProgram
  | .startCarrier => startCarrierProgram
  | .stopCarrier => stopCarrierProgram
  | .busStrobe _ | .busWrite _ _ | .delay _ | .rampUp | .rampDown | .writeOffset _ | .computeFreqReg _
  | .programFrequency _ | .modulate | .carrierUp | .carrierDown | .timerStart | .timerStop | .tick => []

/-- INIT_CHIP presented (R90, R140). -/
def execInitChip (m : RadioMode) (s : State) : Result :=
  present (.initChip m) (cmd16 0#8 (bitOfMode m) 0x1#4) (commandProgram (.initChip m)) s

/-- CLOSE_CHIP presented (R90, R141). -/
def execCloseChip (s : State) : Result := present .closeChip (cmd16 0#8 0#1 0x2#4) (commandProgram .closeChip) s

/-- SET_FREQ presented (R90, R142). -/
def execSetFreq (s : State) : Result := present .setFreq (cmd16 0#8 0#1 0x3#4) (commandProgram .setFreq) s

/-- SEND presented (R90, R190). -/
def execSend (len : Byte) (s : State) : Result :=
  present (.send len) (cmd16 len 0#1 0x4#4) (commandProgram (.send len)) s

/-- START_CARRIER presented (R90, R143). -/
def execStartCarrier (s : State) : Result :=
  present .startCarrier (cmd16 0#8 0#1 0x5#4) (commandProgram .startCarrier) s

/-- STOP_CARRIER presented (R90, R144). -/
def execStopCarrier (s : State) : Result :=
  present .stopCarrier (cmd16 0#8 0#1 0x6#4) (commandProgram .stopCarrier) s

end Sys2Proof.Machine
end

