-- ==== Sys2Proof/Machine/Radio.lean ====
section
/-! DEFINITION. The radio micro-operations of 40_config_frequency.md: bus primitives and delay (R120 to R122), ramps
and offset pair (R123 to R125), frequency (R128, R131), modulation (R133) and carrier (R134, R135). A micro-operation
of several micro-steps performs its first one and leaves the others at the head of SEQ (log 16). -/

namespace Sys2Proof.Machine

/-- BusStrobe(c), R120. -/
def execBusStrobe (c : Byte) (s : State) : Result := busIssue (.strobe c) s

/-- BusWrite(a, bs), R121. -/
def execBusWrite (a : RadioAddr) (bs : List Byte) (s : State) : Result :=
  if bs.isEmpty then .refused .emptyBusWrite else busIssue (.write a bs) s

/-- Delay(d), R122: `D(d)` is recorded; in the timed reading the sequencer is held for the delay's length. -/
def execDelay (d : DelayId) (s : State) : Result :=
  match s.cfg.reading with
  | .untimed => .next (s.record (.delay d))
  | .timed => .next { s.record (.delay d) with hold := s.delayLength d }

/-- The body of a ramp over the given points: a write of ADDR_PA and a delay for each (R123, R124). -/
def rampBody (a : RadioAddr) (d : DelayId) (points : List Byte) : List Micro :=
  points.flatMap fun b => [.op (.busWrite a [b]), .op (.delay d)]

/-- A ramp over the given points, its first write performed. -/
def startRamp (points : List Byte) (s : State) : Result :=
  match points with
  | [] => .next s
  | b :: rest =>
    execBusWrite s.cfg.addrPa [b] (s.before (.op (.delay s.rampDelay) :: rampBody s.cfg.addrPa s.rampDelay rest))

/-- RampUp(), R123: index 0 to RAMP_N - 1. -/
def execRampUp (s : State) : Result := startRamp s.rampTable s

/-- RampDown(), R124: index RAMP_N - 1 down to 0. -/
def execRampDown (s : State) : Result := startRamp s.rampTable.reverse s

/-- WriteOffset(v), R125: one burst, high byte first. -/
def execWriteOffset (v : BitVec 16) (s : State) : Result := execBusWrite s.cfg.addrFreqOff1 (offsetBytes v) s

/-- ComputeFreqReg(f), R128: `q mod 2^24` is returned in `freqQ`; a `q` out of range raises E_FREQ_RANGE and then, as the
next micro-step, faults (R8). -/
def execComputeFreqReg (f : BitVec 32) (s : State) : Result :=
  let q := s.freqInt f
  if freqInRange q then .next { s with freqQ := freqWord q }
  else .next { (s.raise .freqRange).before [.recordFault .freqRange] with freqQ := freqWord q }

/-- ProgramFrequency after its first statement (R131): LSB, then middle, then MSB, then FREQ_REG. -/
def programFrequencyRest (f : BitVec 32) : List Micro :=
  [.op (.computeFreqReg f), .freqByte 0, .freqByte 1, .freqByte 2, .setFreqReg]

/-- ProgramFrequency(f), R131: the neutral offset pair first. -/
def execProgramFrequency (f : BitVec 32) (s : State) : Result :=
  execWriteOffset s.offsetNeutral (s.before (programFrequencyRest f))

/-- The offset value a pulse writes, by `sel` (R133 step b). -/
def State.pulseOffset (s : State) : BitVec 16 := if s.offsetSel then s.offsetHigh else s.offsetLow

/-- MODULATE after the ramp down (R133 steps b to e, then the toggle and the count), with `sel` as read at its start. -/
def State.modulateRest (s : State) : List Micro :=
  [.op (.writeOffset s.pulseOffset), .op (.delay .phaseHold), .op (.writeOffset s.offsetNeutral), .op .rampUp,
   .setOffsetSel (!s.offsetSel), .incModCount]

/-- MODULATE(), R133. Outside TX_MODE the first micro-step is `fault F_INTERNAL` (R8), and the pulse runs after it. -/
def execModulate (s : State) : Result :=
  match s.radioState with
  | .tx => execRampDown (s.before s.modulateRest)
  | .rx => .next ((s.recordFault .internal).before (.op .rampDown :: s.modulateRest))

/-- CarrierUp(), R134. -/
def execCarrierUp (s : State) : Result :=
  if s.cfg.carrierStrobes then execBusStrobe s.cfg.strobeStx (s.before [.op .rampUp]) else execRampUp s

/-- CarrierDown() after the ramp (R135). -/
def State.carrierDownRest (s : State) : List Micro :=
  if s.cfg.carrierStrobes then [.op (.busStrobe s.cfg.strobeSidle)] else []

/-- CarrierDown(), R135. -/
def execCarrierDown (s : State) : Result := execRampDown (s.before s.carrierDownRest)

end Sys2Proof.Machine
end

