-- ==== Sys2Proof/Machine/Timer.lean ====
section
/-! DEFINITION. The bit-rate timer's micro-operations (41_bit_rate_timer.md R170, R171, R176). -/

namespace Sys2Proof.Machine

/-- TIMER_START(), R170: three writes, TMR_ARMED the last. -/
def execTimerStart (s : State) : Result :=
  .next { s with tmrPeriodL := s.tickPeriod, seq := [.setTmrCount s.cfg.tickSeed, .setArmed] ++ s.seq }

/-- TIMER_STOP(), R171: two writes, TMR_ARMED the first. -/
def execTimerStop (s : State) : Result :=
  .next { s with tmrArmed := false, seq := [.setTmrCount 0#16] ++ s.seq }

/-- What every tick does, consumed (`T`) or absorbed (E_TICK_ABSORBED), apart from its write of SYS_STATE (R176). -/
def State.noteTick (s : State) : State :=
  match s.sysState with
  | .txWaiting => s.record .tick
  | .idle | .txStart | .txProcessing | .txEnd => s.raise .tickAbsorbed

/-- SYS_STATE after a tick (R176): GATED moves only TxWaiting, LITERAL every state. -/
def tickTarget (g : TickGating) (st : SysState) : SysState :=
  match g with
  | .literal => .txProcessing
  | .gated =>
    match st with
    | .txWaiting => .txProcessing
    | .idle => .idle
    | .txStart => .txStart
    | .txProcessing => .txProcessing
    | .txEnd => .txEnd

/-- TICK(), R176, one atomic step (R80). -/
def execTick (s : State) : Result :=
  .next { s.noteTick with sysState := tickTarget s.cfg.tickGating s.sysState }

end Sys2Proof.Machine
end

