-- ==== Sys2Proof/Machine/Dispatch.lean ====
section
/-! DEFINITION. One arm per instruction. -/

namespace Sys2Proof.Machine

def exec (i : Instr) (s : State) : Host.Outcome State Fault Refusal :=
  match i with
  | .initChip m => Sys2Proof.Machine.execInitChip m s
  | .closeChip => Sys2Proof.Machine.execCloseChip s
  | .setFreq => Sys2Proof.Machine.execSetFreq s
  | .send len => Sys2Proof.Machine.execSend len s
  | .startCarrier => Sys2Proof.Machine.execStartCarrier s
  | .stopCarrier => Sys2Proof.Machine.execStopCarrier s
  | .busStrobe c => Sys2Proof.Machine.execBusStrobe c s
  | .busWrite a bs => Sys2Proof.Machine.execBusWrite a bs s
  | .delay d => Sys2Proof.Machine.execDelay d s
  | .rampUp => Sys2Proof.Machine.execRampUp s
  | .rampDown => Sys2Proof.Machine.execRampDown s
  | .writeOffset v => Sys2Proof.Machine.execWriteOffset v s
  | .computeFreqReg f => Sys2Proof.Machine.execComputeFreqReg f s
  | .programFrequency f => Sys2Proof.Machine.execProgramFrequency f s
  | .modulate => Sys2Proof.Machine.execModulate s
  | .carrierUp => Sys2Proof.Machine.execCarrierUp s
  | .carrierDown => Sys2Proof.Machine.execCarrierDown s
  | .timerStart => Sys2Proof.Machine.execTimerStart s
  | .timerStop => Sys2Proof.Machine.execTimerStop s
  | .tick => Sys2Proof.Machine.execTick s

end Sys2Proof.Machine
end

