-- ==== Sys2Proof/Machine/HostPort.lean ====
section
/-! DEFINITION. The host register port (20_memory.md R60 to R69) and the host's program statements (30_encoding.md R98,
R99). -/

namespace Sys2Proof.Machine

/-- The registers of the host window (R62). -/
inductive HostReg where
  | cmd
  | status
  | err
  | profile
  | freqLo
  | freqHi
  | bitIndex
  | bitTotal
  | feOut
  | freqRegLo
  | freqRegHi
  | modCount
  | tmrCount
deriving DecidableEq, Repr

/-- What the register map of R62 has at an offset. -/
inductive Location where
  | reg (r : HostReg)
  /-- TXBUF[k]. -/
  | txbuf (k : Nat)
  /-- Reserved: reads 0, and a write is ignored (R66). -/
  | reserved
deriving DecidableEq, Repr

/-- The register map (R62). -/
def locate (off : Offset) : Location :=
  match off.toNat with
  | 0x000 => .reg .cmd
  | 0x002 => .reg .status
  | 0x004 => .reg .err
  | 0x006 => .reg .profile
  | 0x008 => .reg .freqLo
  | 0x00A => .reg .freqHi
  | 0x00C => .reg .bitIndex
  | 0x00E => .reg .bitTotal
  | 0x010 => .reg .feOut
  | 0x012 => .reg .freqRegLo
  | 0x014 => .reg .freqRegHi
  | 0x016 => .reg .modCount
  | 0x018 => .reg .tmrCount
  | n => if 0x100 ≤ n ∧ n ≤ 0x1FE then .txbuf (n - 0x100) else .reserved

/-- R64: 16 bits at an even offset below 0x100; from 0x100 on, 8 bits anywhere or 16 bits at an even offset. -/
def legalAccess (off : Offset) : Width → Bool
  | .w16 => off.toNat % 2 == 0
  | .w8 => 0x100 ≤ off.toNat

/-- The value a register reads as (R26 to R37, R62). -/
def readReg (s : State) : HostReg → Word
  | .cmd => s.cmd
  | .status => s.statusWord
  | .err => s.err
  | .profile => s.profile
  | .freqLo => s.freq.extractLsb' 0 16
  | .freqHi => s.freq.extractLsb' 16 16
  | .bitIndex => s.bitIndex.setWidth 16
  | .bitTotal => s.bitTotal.setWidth 16
  | .feOut => s.feOutWord
  | .freqRegLo => s.freqReg.extractLsb' 0 16
  | .freqRegHi => (s.freqReg.extractLsb' 16 8).setWidth 16
  | .modCount => s.modCount
  | .tmrCount => s.tmrCount

/-- The byte at an offset of the TXBUF region (R62, R66), and the state after the read. -/
def readTxByteAt (off : Offset) (s : State) : Byte × State :=
  match locate off with
  | .txbuf k => readTx k s
  | .reg _ | .reserved => (0#8, s)

/-- The value of a legal read, and the state after it (R62, R63). -/
def readValue (off : Offset) (w : Width) (s : State) : Word × State :=
  match locate off, w with
  | .reg r, _ => (readReg s r, s)
  | .reserved, _ => (0#16, s)
  | .txbuf k, .w8 => ((readTx k s).1.setWidth 16, (readTx k s).2)
  | .txbuf k, .w16 =>
    let lo := readTx k s
    let hi := readTxByteAt (off + 1) lo.2
    (hi.1 ++ lo.1, hi.2)

/-- MemRead (R69): the value goes to the port's read data. -/
def memRead (off : Offset) (w : Width) (s : State) : State :=
  if legalAccess off w then
    let r := readValue off w s
    { r.2 with rdata := r.1 }
  else { s.raise .access with rdata := 0#16 }

/-- `present_command` (R90): the word is decoded, refused with E_ILLEGAL_OP, or run. -/
def presentCommand (w : Word) (s : State) : Result :=
  match decodeWord w with
  | .error _ => .next (s.raise .illegalOp)
  | .ok i => exec i s

/-- A write to a register (R66, R69). -/
def writeReg (r : HostReg) (v : Word) (s : State) : Result :=
  match r with
  | .cmd => presentCommand v s
  | .err => .next { s with err := clearErrBits s.err v }
  | .profile => .next { s with profile := (v.extractLsb' 0 3).setWidth 16 }
  | .freqLo => .next { s with freq := s.freq.extractLsb' 16 16 ++ v }
  | .freqHi => .next { s with freq := v ++ s.freq.extractLsb' 0 16 }
  | .status | .bitIndex | .bitTotal | .feOut | .freqRegLo | .freqRegHi | .modCount | .tmrCount => .next s

/-- A write of TXBUF[k] (R38). -/
def writeTx (k : Nat) (b : Byte) (s : State) : State := { s with txbuf := s.txbuf.write k b }

/-- A byte write in the TXBUF region; the reserved byte 0x1FF ignores it (R66). -/
def writeTxByteAt (off : Offset) (b : Byte) (s : State) : State :=
  match locate off with
  | .txbuf k => writeTx k b s
  | .reg _ | .reserved => s

/-- MemWrite (R69): the width and alignment first, then BUSY, then the register map. -/
def memWrite (off : Offset) (w : Width) (v : Word) (s : State) : Result :=
  if !legalAccess off w then .next (s.raise .access)
  else if s.busy && off ≠ 0x004#9 then .next (s.raise .busyWrite)
  else
    match locate off, w with
    | .reg r, _ => writeReg r v s
    | .reserved, _ => .next s
    | .txbuf k, .w8 => .next (writeTx k (v.extractLsb' 0 8) s)
    | .txbuf k, .w16 => .next (writeTxByteAt (off + 1) (v.extractLsb' 8 8) (writeTx k (v.extractLsb' 0 8) s))

/-! ## The host's address space (R235) -/

/-- The offset of a host address in the window at `DMCS_BASE` (92_eei_decisions.md D50: "Every offset of 20_memory.md rule
R62 is relative to it"). An address outside the 512 bytes is not the block's. -/
def windowOffset (p : Params) (a : Nat) : Option Offset :=
  if p.dmcsBase ≤ a ∧ a < p.dmcsBase + 512 then some (BitVec.ofNat 9 (a - p.dmcsBase)) else none

/-- A write at an address of the host's space: the block sees those of its window. -/
def addressWrite (a : Nat) (w : Width) (v : Word) (s : State) : Result :=
  match windowOffset s.cfg a with
  | some off => memWrite off w v s
  | none => .next s

/-- A read at an address of the host's space: the block answers those of its window. -/
def addressRead (a : Nat) (w : Width) (s : State) : State :=
  match windowOffset s.cfg a with
  | some off => memRead off w s
  | none => s

/-! ## Host programs (R98, R99) -/

/-- One statement of a host program (R98). A POLL whose condition does not hold yet stays the next statement. -/
def hostStmt (st : HostStmt) (s : State) : Result :=
  match st with
  | .w16 off v => memWrite off .w16 v s
  | .w8 off v => memWrite off .w8 (v.setWidth 16) s
  | .r16 off => .next (memRead off .w16 s)
  | .r8 off => .next (memRead off .w8 s)
  | .poll off mask want =>
    let t := memRead off .w16 s
    if t.rdata &&& mask = want then .next t else .next { t with hostProg := st :: t.hostProg }

/-- The statement the host issues next: of its program, or a free one at its end (log 3). -/
def State.nextStmt (s : State) : HostStmt :=
  match s.hostProg with
  | st :: _ => st
  | [] => Config.freeHost s.draws

/-- The host's move: its next statement. -/
def hostMove (s : State) : Result :=
  match s.hostProg with
  | _ :: rest => hostStmt s.nextStmt { s with hostProg := rest }
  | [] => hostStmt s.nextStmt { s with draws := s.draws + 1 }

end Sys2Proof.Machine
end

