-- ==== Sys2Proof/Machine/Sequencer.lean ====
section
/-! DEFINITION. The sequencer's micro-step: the transmission state machine's bodies (42_tx_state_machine.md) and the
statements that write state (00_scope.md R8, 10_state.md R21). -/

namespace Sys2Proof.Machine

/-- TXSTART_BODY, R191. -/
def txStartBody : List Micro :=
  [.clearBitIndex, .setBitTotal, .op .carrierUp, .op .timerStart, .leaveTxStart, .dispatch]

/-- TXPROC_BODY from its head, R194. -/
def txProcBody : List Micro := [.processBit]

/-- TXPROC_BODY after the bit (R194). -/
def afterBit : List Micro := [.incBitIndex, .leaveTxProcessing, .dispatch]

/-- OVERRUN after its raise (R195): the fault, TxEnd, and back to DISPATCH. -/
def overrunRest : List Micro := [.recordFault .cursorOverrun, .setSysState .txEnd, .dispatch]

/-- TXEND_BODY, R196. -/
def txEndBody : List Micro := [.op .timerStop, .op .carrierDown, .clearBusy]

/-- DISPATCH, R197: reads SYS_STATE and selects the body; TxWaiting holds the sequencer there (R192). -/
def dispatchStep (s : State) : Result :=
  match s.sysState with
  | .idle => .fault .dispatchIdle
  | .txStart => .next (s.before txStartBody)
  | .txWaiting => .next (s.before [.dispatch])
  | .txProcessing => .next (s.before txProcBody)
  | .txEnd => .next (s.before txEndBody)

/-- `BIT_INDEX <- BIT_INDEX + 1`, R194. -/
def incBitIndexStep (s : State) : Result := .next { s with bitIndex := s.bitIndex + 1 }

/-- The bit at the cursor (R193) and the state after the read of its byte. -/
def cursorBit (s : State) : Bool × State :=
  (bitOfByte (readTx (bitByteIndex s.bitIndex) s).1 s.bitIndex, (readTx (bitByteIndex s.bitIndex) s).2)

/-- TXPROC_BODY once the bit is read: MODULATE for a 0 bit, then the increment (R194). -/
def bitBody (b : Bool) : List Micro := if b then afterBit else .op .modulate :: afterBit

/-- The head of TXPROC_BODY (R194, R195). A statement that only reads belongs to the micro-step of the first statement
that acts (log 7): OVERRUN's raise, MODULATE's first one, or the increment. The read of a byte that holds no value
records F_UNWRITTEN, and so is a micro-step of its own (R8). -/
def processBitStep (s : State) : Result :=
  if s.bitTotal ≤ s.bitIndex then .next ((s.raise .cursorOverrun).before overrunRest)
  else
    match s.txbuf.read (bitByteIndex s.bitIndex), cursorBit s with
    | none, (b, s1) => .next (s1.before (bitBody b))
    | some _, (false, s1) => exec .modulate (s1.before afterBit)
    | some _, (true, s1) => incBitIndexStep (s1.before [.leaveTxProcessing, .dispatch])

/-- One statement, already taken off SEQ. -/
def microStep (m : Micro) (s : State) : Result :=
  match m with
  | .op i => exec i s
  | .freqByte k => exec (.busWrite (freqAddr s.cfg k) [freqByteOf s.freqQ k]) s
  | .setFreqReg => .next { s with freqReg := s.freqQ }
  | .setPaEn v => .next { s with paEn := v }
  | .setLnaEn v => .next { s with lnaEn := v }
  | .recordFe => .next (s.record (.frontEnd s.paEn s.lnaEn))
  | .setRxIrqEn => .next { s with rxIrqEn := true }
  | .recordIrqEn => .next (s.record (.irqEn true))
  | .setRadioState v => .next { s with radioState := v }
  | .setChipMode v => .next { s with chipMode := v }
  | .setOffsetSel v => .next { s with offsetSel := v }
  | .incModCount => .next { s with modCount := s.modCount + 1 }
  | .setTmrCount v => .next { s with tmrCount := v }
  | .setArmed => .next { s with tmrArmed := true }
  | .setSysState v => .next { s with sysState := v }
  | .dispatch => dispatchStep s
  | .clearBitIndex => .next { s with bitIndex := 0#11 }
  | .setBitTotal => .next { s with bitTotal := 8#11 * s.curLen.setWidth 11 }
  | .leaveTxStart => .next { s with sysState := if s.bitTotal = 0#11 then .txEnd else .txWaiting }
  | .processBit => processBitStep s
  | .incBitIndex => incBitIndexStep s
  | .leaveTxProcessing => .next { s with sysState := if s.bitIndex = s.bitTotal then .txEnd else .txWaiting }
  | .clearBusy => .next { s with busy := false, seq := [] }
  | .recordFault f => .next (s.recordFault f)

/-- Whether the sequencer may perform a micro-step: a command runs, no transaction is in flight (R77) and no delay
holds it (R122). -/
def State.sequencerFree (s : State) : Bool := s.busy && s.bus.isNone && s.hold == 0

/-- The sequencer's move. Without a step it changes nothing (log 18). -/
def seqMove (s : State) : Result :=
  if s.sequencerFree then
    match s.seq with
    | [] => .next s
    | m :: rest => microStep m { s with seq := rest }
  else .next s

end Sys2Proof.Machine
end

