-- ==== Sys2Proof/Machine/Agents.lean ====
section
/-! DEFINITION. The moves of the timer, the bus responder, the clock and the `rst` pin, and the choice of the next move
(00_scope.md R4, 41_bit_rate_timer.md R174, R175, 60_exceptions.md R227, 70_reset_and_hazards.md R260 to R262). -/

namespace Sys2Proof.Machine

/-- The outcome of `f` on the next state, if there is one. -/
def andThen (r : Result) (f : State → Result) : Result :=
  match r with
  | .next s => f s
  | .fault e => .fault e
  | .refused e => .refused e

/-- The timer's step in the untimed reading (R175): a tick, while armed. -/
def tickMove (s : State) : Result :=
  match s.cfg.reading with
  | .untimed => if s.tmrArmed then exec .tick s else .next s
  | .timed => .next s

/-- The bus responder's step: the transaction in flight completes (R120, R121), in the timed reading no sooner than the
port's time after its issue (R275). -/
def busMove (r : BusResult) (s : State) : Result :=
  if s.bus.isSome && s.busWait == 0 then .next (busComplete r s) else .next s

/-- What an edge of `tclk` does to a running delay and to a transaction in flight: one edge less to go (log 11). -/
def State.countWaits (s : State) : State := { s with hold := s.hold - 1, busWait := s.busWait - 1 }

/-- A rising edge of `tclk` (R174), which also counts a running delay (R122) and the port's time (R275) down. -/
def clockEdge (s : State) : Result :=
  let s1 := s.countWaits
  if s1.tmrArmed then
    if s1.tmrCount = 0#16 then exec .tick { s1 with tmrCount := s1.tmrPeriodL - 1#16 }
    else .next { s1 with tmrCount := s1.tmrCount - 1#16 }
  else .next s1

/-- The clock's move: an edge in the timed reading; in the untimed one nothing counts (R175). -/
def tclkMove (s : State) : Result :=
  match s.cfg.reading with
  | .untimed => .next s
  | .timed => clockEdge s

/-- The edge that ends a clock cycle which began with the timer armed or not. The edge of the very cycle in which
TIMER_START arms the timer does not count: "the first tick after TIMER_START comes `TICK_SEED + 1` clocks after it"
(R174; 95_test_vectors.md L2.12). DEDUCED, where R227's order could be read otherwise (log 24). -/
def cycleEdge (armedAtStart : Bool) (s : State) : Result :=
  if s.tmrArmed && !armedAtStart then .next s.countWaits else clockEdge s

/-- One clock cycle (R227): the host access, then the micro-step, then the timer. DESIGN CHOICE (log 24): the cycle
of this move is one of `tclk`, with one edge, at most one host access and at most one micro-step; a bus completion falls
between cycles. -/
def cycleMove (h q : Bool) (s : State) : Result :=
  match s.cfg.reading with
  | .untimed => .next s
  | .timed => andThen (andThen (if h then hostMove s else .next s) fun s => if q then seqMove s else .next s)
      (cycleEdge s.tmrArmed)

/-- Every element of R45 at its reset value. What lies outside the block stays: the parameters, the schedule, the host's
program and the model's counters, of which that of the resets advances. -/
def State.blockReset (s : State) : State :=
  { State.reset with
    cfg := s.cfg
    script := s.script
    hostProg := s.hostProg
    draws := s.draws
    resets := s.resets + 1 }

/-- The `rst` pin takes a level (R260, R262): asserted, it abandons the command and the transaction in flight. -/
def rstMove (asserted : Bool) (s : State) : Result := .next { s.blockReset with rst := asserted }

/-- One move. "While `rst` is asserted, no agent takes a step" (R260). DESIGN CHOICE (log 24), where R227 does not say which
events share a clock cycle: only those of one `cycle` move do. A single `host`, `seq` or `tclk` move of the timed reading
is in a cycle of its own, so that between two edges of `tclk` host accesses and micro-steps come in any number and order. -/
def stepMove (m : Move) (s : State) : Result :=
  match m with
  | .rst asserted => if asserted || s.rst then rstMove asserted s else .next s
  | .host => if s.rst then .next s else hostMove s
  | .seq => if s.rst then .next s else seqMove s
  | .bus r => if s.rst then .next s else busMove r s
  | .tick => if s.rst then .next s else tickMove s
  | .tclk => if s.rst then .next s else tclkMove s
  | .cycle h q => if s.rst then .next s else cycleMove h q s

/-- The next scheduled move, or a free one when nothing is scheduled (log 2). -/
def runNext (s : State) : Result :=
  match s.script with
  | m :: ms => stepMove m { s with script := ms }
  | [] => stepMove (Config.freeMove s.draws) { s with draws := s.draws + 1 }

/-- The command word `w` as the host's next access, and that access as the next move (log 15). -/
def State.withCommandWord (s : State) (w : Word) : State :=
  { s with script := .host :: s.script, hostProg := .w16 0x000#9 w :: s.hostProg }

end Sys2Proof.Machine
end

