-- ==== Sys2Proof/Machine/Step.lean ====
section
/-! DEFINITION. One step of the machine: one move of one agent. -/

namespace Sys2Proof.Machine

/-- One step. -/
def step (s : State) : Host.Outcome State Fault Refusal := runNext s

/-- The state in which the command word made of the low `nbits` bits of `w` is presented next: the host's next access
writes it to CMD, and the host moves next. It runs where BUSY = 0 and `rst` is released, as after reset (log 15). -/
def State.withFetchWord (s : State) (nbits w : Nat) : State := s.withCommandWord (BitVec.ofNat 16 (w % 2 ^ nbits))

end Sys2Proof.Machine
end

