-- ==== Sys2Proof/Machine/Asm.lean ====
section
/-! DEFINITION. The host program's syntax: the expansion of its lines into accesses (30_encoding.md R98, R99) and the
reading of its text ("one statement per line. `;` starts a comment. Numbers are decimal, or hexadecimal with `0x`"). -/

namespace Sys2Proof.Machine

/-- A 16-bit write. -/
def asmW16 (off v : Nat) : HostStmt := .w16 (BitVec.ofNat 9 off) (BitVec.ofNat 16 v)

/-- `LOADTX b0, ..., bk` from index `k` on (R99). -/
def asmLoad : Nat → List Nat → List HostStmt
  | _, [] => []
  | k, b :: bs => .w8 (BitVec.ofNat 9 (0x100 + k)) (BitVec.ofNat 8 b) :: asmLoad (k + 1) bs

/-- A command mnemonic: the 16-bit write of its word to CMD (R98). -/
def asmCommand (i : Instr) : List HostStmt :=
  match encode i with
  | some w => [.w16 0x000#9 w]
  | none => []

/-- The expansion of a statement whose operands are in range. -/
def AsmStmt.expand : AsmStmt → List HostStmt
  | .w16 off v => [asmW16 off v]
  | .w8 off v => [.w8 (BitVec.ofNat 9 off) (BitVec.ofNat 8 v)]
  | .r16 off => [.r16 (BitVec.ofNat 9 off)]
  | .r8 off => [.r8 (BitVec.ofNat 9 off)]
  | .poll off mask want => [.poll (BitVec.ofNat 9 off) (BitVec.ofNat 16 mask) (BitVec.ofNat 16 want)]
  | .initChip m => asmCommand (.initChip m)
  | .closeChip => asmCommand .closeChip
  | .setFreq => asmCommand .setFreq
  | .send n => asmCommand (.send (BitVec.ofNat 8 n))
  | .startCarrier => asmCommand .startCarrier
  | .stopCarrier => asmCommand .stopCarrier
  | .setf hz => [asmW16 0x008 (hz % 65536), asmW16 0x00A (hz / 65536)]
  | .prof xtal region fe => [asmW16 0x006 (fe * 4 + region * 2 + xtal)]
  | .loadtx bs => asmLoad 0 bs
  | .waitidle => [.poll 0x002#9 0x0001#16 0x0000#16]
  | .clrerr => [asmW16 0x004 0x00FF]

/-- The accesses of a program line; a line with an operand out of range does not assemble. -/
def AsmStmt.assemble (a : AsmStmt) : Option (List HostStmt) := if a.wellFormed then some (AsmStmt.expand a) else none

/-- The accesses of a program, line by line. -/
def assemble : List AsmStmt → Option (List HostStmt)
  | [] => some []
  | a :: as =>
    match AsmStmt.assemble a, assemble as with
    | some h, some t => some (h ++ t)
    | _, _ => none

/-! ## The text (R98) -/

/-- The pieces of a text between the separators `c`. -/
def splitAt (c : Char) : List Char → List (List Char)
  | [] => [[]]
  | x :: xs =>
    match splitAt c xs with
    | [] => [[x]]
    | p :: ps => if x = c then [] :: p :: ps else (x :: p) :: ps

/-- A text without blanks at either end. -/
def trim (cs : List Char) : List Char := ((cs.dropWhile (· = ' ')).reverse.dropWhile (· = ' ')).reverse

/-- A line without its comment. -/
def withoutComment : List Char → List Char
  | [] => []
  | c :: cs => if c = ';' then [] else c :: withoutComment cs

/-- The value of a digit, below 16. -/
def digitValue (c : Char) : Option Nat :=
  let n := c.toNat
  if 48 ≤ n ∧ n ≤ 57 then some (n - 48)
  else if 97 ≤ n ∧ n ≤ 102 then some (n - 87)
  else if 65 ≤ n ∧ n ≤ 70 then some (n - 55)
  else none

/-- The number whose digits in the base follow those of `acc`. -/
def digits (base : Nat) : Nat → List Char → Option Nat
  | acc, [] => some acc
  | acc, c :: cs =>
    match digitValue c with
    | some d => if d < base then digits base (acc * base + d) cs else none
    | none => none

/-- A number, decimal or hexadecimal with `0x`. -/
def number : List Char → Option Nat
  | [] => none
  | ['0', 'x'] => none
  | '0' :: 'x' :: cs => digits 16 0 cs
  | c :: cs => digits 10 0 (c :: cs)

/-- The numbers of a list of operands. -/
def numbers : List (List Char) → Option (List Nat)
  | [] => some []
  | w :: ws =>
    match number w, numbers ws with
    | some n, some ns => some (n :: ns)
    | _, _ => none

/-- The mnemonics of R98 and R99. -/
inductive Mnemonic where
  | w16 | w8 | r16 | r8 | poll | initChip | closeChip | setFreq | send | startCarrier | stopCarrier
  | setf | prof | loadtx | waitidle | clrerr
deriving DecidableEq, Repr

/-- The mnemonics as they are written. -/
def mnemonics : List (List Char × Mnemonic) :=
  [(['W', '1', '6'], .w16), (['W', '8'], .w8), (['R', '1', '6'], .r16), (['R', '8'], .r8),
   (['P', 'O', 'L', 'L'], .poll), (['I', 'N', 'I', 'T', '_', 'C', 'H', 'I', 'P'], .initChip),
   (['C', 'L', 'O', 'S', 'E', '_', 'C', 'H', 'I', 'P'], .closeChip),
   (['S', 'E', 'T', '_', 'F', 'R', 'E', 'Q'], .setFreq), (['S', 'E', 'N', 'D'], .send),
   (['S', 'T', 'A', 'R', 'T', '_', 'C', 'A', 'R', 'R', 'I', 'E', 'R'], .startCarrier),
   (['S', 'T', 'O', 'P', '_', 'C', 'A', 'R', 'R', 'I', 'E', 'R'], .stopCarrier),
   (['S', 'E', 'T', 'F'], .setf), (['P', 'R', 'O', 'F'], .prof), (['L', 'O', 'A', 'D', 'T', 'X'], .loadtx),
   (['W', 'A', 'I', 'T', 'I', 'D', 'L', 'E'], .waitidle), (['C', 'L', 'R', 'E', 'R', 'R'], .clrerr)]

/-- A statement with numbers for operands. -/
def numericStmt (m : Mnemonic) (ns : List Nat) : Option AsmStmt :=
  match m, ns with
  | .w16, [off, v] => some (.w16 off v)
  | .w8, [off, v] => some (.w8 off v)
  | .r16, [off] => some (.r16 off)
  | .r8, [off] => some (.r8 off)
  | .poll, [off, mask, want] => some (.poll off mask want)
  | .closeChip, [] => some .closeChip
  | .setFreq, [] => some .setFreq
  | .send, [n] => some (.send n)
  | .startCarrier, [] => some .startCarrier
  | .stopCarrier, [] => some .stopCarrier
  | .setf, [hz] => some (.setf hz)
  | .prof, [xtal, region, fe] => some (.prof xtal region fe)
  | .loadtx, bs => some (.loadtx bs)
  | .waitidle, [] => some .waitidle
  | .clrerr, [] => some .clrerr
  | _, _ => none

/-- A statement from its mnemonic and the texts of its operands. -/
def stmtOf (m : Mnemonic) (ops : List (List Char)) : Option AsmStmt :=
  match m, ops with
  | .initChip, [['T', 'X']] => some (.initChip .tx)
  | .initChip, [['R', 'X']] => some (.initChip .rx)
  | _, _ =>
    match numbers ops with
    | some ns => numericStmt m ns
    | none => none

/-- The operands: separated by commas, none for an empty text. -/
def operandTexts (cs : List Char) : List (List Char) :=
  match trim cs with
  | [] => []
  | c :: rest => (splitAt ',' (c :: rest)).map trim

/-- A line, already without its comment and the blanks around it. -/
def parseStmt (cs : List Char) : Option AsmStmt :=
  match mnemonics.find? (fun e => e.1 == cs.takeWhile (· ≠ ' ')) with
  | some (_, m) => stmtOf m (operandTexts (cs.dropWhile (· ≠ ' ')))
  | none => none

/-- The statements of lines of text; a line with nothing but a comment has none. -/
def parseLines : List (List Char) → Option (List AsmStmt)
  | [] => some []
  | l :: ls =>
    match trim (withoutComment l), parseLines ls with
    | [], r => r
    | c :: cs, some t =>
      match parseStmt (c :: cs) with
      | some a => some (a :: t)
      | none => none
    | _ :: _, none => none

/-- A host program from its text. -/
def parseProgram (text : List Char) : Option (List AsmStmt) := parseLines (splitAt '\n' text)

end Sys2Proof.Machine
end

