-- ==== Sys2Proof/Safety.lean ====
section
/-! DEFINITION. The terms claims use: what a good end is, the launch premises, runs over a schedule, fairness, the
events a piece of pseudocode records, and the timing formulas (70_reset_and_hazards.md R270 to R281). -/

namespace Sys2Proof.Safety

open Sys2Proof.Machine

/-! ## Good states -/

/-- "Every claim about a run takes `FAULTS = {}` as a premise" (R232). -/
abbrev faultFree (s : State) : Prop := s.faults = FaultSet.empty

/-- The end of a run: the host has issued its last statement, and the block is at rest (R279). -/
abbrev ended (s : State) : Prop := s.hostProg = [] ∧ s.busy = false ∧ s.tmrArmed = false ∧ s.bus = none

/-- R279: the end of a run is good. -/
abbrev endsWell (s : State) : Prop := ended s ∧ faultFree s

/-- TXBUF[0 .. B.length - 1] holds the bytes `B`, every one written (R281). -/
abbrev bufferHolds (s : State) (B : List Byte) : Prop := ∀ k : Nat, k < B.length → s.txbuf.read k = B[k]?

/-- `SendLaunch(L, B, sel0)` (R281). -/
abbrev sendLaunch (len : Byte) (B : List Byte) (sel0 : Bool) (s : State) : Prop :=
  faultFree s ∧ s.busy = false ∧ s.bus = none ∧ s.chipMode = .txReady ∧ s.radioState = .tx ∧ s.tmrArmed = false ∧
    B.length = len.toNat ∧ bufferHolds s B ∧ s.offsetSel = sel0

/-- The block is out of reset, in the untimed reading, with no transaction in flight and no delay running. -/
abbrev calm (s : State) : Prop :=
  s.rst = false ∧ s.cfg.reading = .untimed ∧ s.bus = none ∧ s.hold = 0 ∧ s.busWait = 0

/-! ## Runs -/

/-- `n` steps. -/
def run : Nat → State → Result
  | 0, s => .next s
  | n + 1, s => andThen (step s) (run n)

/-- The run over the moves `ms`. -/
def runScript (ms : List Move) (s : State) : Result := run ms.length { s with script := ms }

/-- `n` micro-steps, each after the completion of the transaction in flight, if any, and the last one's completion. -/
def okSchedule : Nat → List Move
  | 0 => [.bus .ok]
  | n + 1 => .bus .ok :: .seq :: okSchedule n

/-- The instruction answers a next state, from which `n` more micro-steps, all transactions completing `ok`, lead to
`u`. -/
def completesAs (i : Instr) (s : State) (n : Nat) (u : State) : Prop :=
  ∃ t, exec i s = .next t ∧ runScript (okSchedule n) t = .next u

/-- The moves by which a command runs in the untimed reading with no failure: no host write, no reset, no `err`. -/
def plainMove : Move → Bool
  | .seq | .tick | .bus .ok => true
  | .host | .bus .err | .tclk | .cycle _ _ | .rst _ => false

/-- The move the next step makes. -/
def nextMove (s : State) : Move :=
  match s.script with
  | m :: _ => m
  | [] => Config.freeMove s.draws

/-- "A new run starts from the reset state, with HIST and FAULTS empty" (R262): the machine right after the release of
`rst`, with what lies outside the block as it is (log 12). -/
def startsRun (s : State) : Prop :=
  s = { State.reset with
    cfg := s.cfg, script := s.script, hostProg := s.hostProg, draws := s.draws, resets := s.resets }

/-- A step within one run: none that asserts `rst`, which "ends the run" (R262), and none while it is asserted. -/
def runStep (s t : State) : Prop := s.rst = false ∧ nextMove s ≠ .rst true ∧ step s = .next t

/-- `s` is a state of the run that starts at `a`, which ends at a block reset and before the next run (R262). DESIGN CHOICE
(log 20): steps after a state that is `ended`, those of the free host among them, still belong to the run, where R279 does
not say whether they do; a fault recorded then refutes too. -/
inductive InRun (a : State) : State → Prop where
  | start : startsRun a → InRun a a
  | step {s t : State} : InRun a s → runStep s t → InRun a t

/-- An infinite run, which no block reset ends. -/
def isRun (r : Nat → State) : Prop := startsRun (r 0) ∧ ∀ n, runStep (r n) (r (n + 1))

/-- Where the run can end: at an end of R279, at a block reset (R262), or where the machine stops (log 20). -/
def runEnds (s : State) : Prop := ended s ∨ nextMove s = .rst true ∨ ∀ t, step s ≠ .next t

/-- Whether the move has the host make an access. -/
def movesHost (rd : Reading) : Move → Bool
  | .host => true
  | .cycle h _ => h && rd == .timed
  | .seq | .bus _ | .tick | .tclk | .rst _ => false

/-- Whether the move has the sequencer perform a micro-step. -/
def movesSequencer (rd : Reading) : Move → Bool
  | .seq => true
  | .cycle _ q => q && rd == .timed
  | .host | .bus _ | .tick | .tclk | .rst _ => false

/-- Whether the move is one of the timer: a tick in the untimed reading, an edge in the timed one. -/
def movesTimer (rd : Reading) : Move → Bool
  | .tick => rd == .untimed
  | .tclk | .cycle _ _ => rd == .timed
  | .host | .seq | .bus _ | .rst _ => false

/-- Weak fairness of the host (R279): one that stays with a statement to issue issues it. -/
def hostFair (r : Nat → State) : Prop :=
  ∀ n, (∀ k, n ≤ k → (r k).hostProg ≠ [] ∧ (r k).rst = false) →
    ∃ k, n ≤ k ∧ movesHost (r k).cfg.reading (nextMove (r k)) = true

/-- Weak fairness of the timer (R175): one that stays armed ticks again. In the timed reading the clock always runs. -/
def timerFair (r : Nat → State) : Prop :=
  ∀ n, (∀ k, n ≤ k → (r k).tmrArmed = true ∨ (r k).cfg.reading = .timed) →
    ∃ k, n ≤ k ∧ movesTimer (r k).cfg.reading (nextMove (r k)) = true

/-- Weak fairness of the bus responder (R275): a transaction that stays in flight, its time on the port over, completes. -/
def busFair (r : Nat → State) : Prop :=
  ∀ n, (∀ k, n ≤ k → (r k).bus.isSome = true ∧ (r k).busWait = 0) → ∃ k res, n ≤ k ∧ nextMove (r k) = .bus res

/-- Weak fairness of the sequencer (R279): one that stays free to step moves. -/
def sequencerFair (r : Nat → State) : Prop :=
  ∀ n, (∀ k, n ≤ k → (r k).sequencerFree = true) →
    ∃ k, n ≤ k ∧ movesSequencer (r k).cfg.reading (nextMove (r k)) = true

/-- An infinite run in which every agent is weakly fair (R279). -/
def fairRun (r : Nat → State) : Prop := isRun r ∧ hostFair r ∧ sequencerFair r ∧ timerFair r ∧ busFair r

/-- R279: "A run that ends with FAULTS non-empty, or an infinite run in which every agent is weakly fair, refutes every
claim", of the one run that starts at `a` (R262: "A claim speaks of one run"). A block reset ends a run too, so faults
recorded before it refute although it clears FAULTS. The machine has a step after an end of R279 as well, so an infinite
run is one that never comes to such an end (log 20). -/
def refutes (a : State) : Prop :=
  (∃ s, InRun a s ∧ runEnds s ∧ ¬ faultFree s) ∨ ∃ r : Nat → State, r 0 = a ∧ fairRun r ∧ ∀ n, ¬ ended (r n)

/-! ## The events of the pseudocode -/

/-- A ramp over the points (R123, R124). -/
def rampEvents (s : State) (points : List Byte) : List Event :=
  points.flatMap fun b => [.write s.cfg.addrPa [b], .delay s.rampDelay]

/-- RampUp (R123). -/
def rampUpEvents (s : State) : List Event := rampEvents s s.rampTable

/-- RampDown (R124). -/
def rampDownEvents (s : State) : List Event := rampEvents s s.rampTable.reverse

/-- CarrierUp (R134). -/
def carrierUpEvents (s : State) : List Event :=
  (if s.cfg.carrierStrobes then [.strobe s.cfg.strobeStx] else []) ++ rampUpEvents s

/-- CarrierDown (R135). -/
def carrierDownEvents (s : State) : List Event :=
  rampDownEvents s ++ (if s.cfg.carrierStrobes then [.strobe s.cfg.strobeSidle] else [])

/-- WriteOffset(v) (R125). -/
def offsetEvent (s : State) (v : BitVec 16) : Event := .write s.cfg.addrFreqOff1 [v.extractLsb' 8 8, v.extractLsb' 0 8]

/-- MODULATE with OFFSET_SEL = `sel` (R133). -/
def pulseEvents (s : State) (sel : Bool) : List Event :=
  rampDownEvents s ++
    [offsetEvent s (if sel then s.offsetHigh else s.offsetLow), .delay .phaseHold, offsetEvent s s.offsetNeutral] ++
    rampUpEvents s

/-- ProgramFrequency(f): the neutral pair, then LSB, middle and MSB (R131). -/
def programFrequencyEvents (s : State) (f : BitVec 32) : List Event :=
  let q : BitVec 24 := freqWord (s.freqInt f)
  [offsetEvent s s.offsetNeutral, .write s.cfg.addrFreq0 [q.extractLsb' 0 8],
   .write s.cfg.addrFreq1 [q.extractLsb' 8 8], .write s.cfg.addrFreq2 [q.extractLsb' 16 8]]

/-- A frequency value out of range raises E_FREQ_RANGE and faults (R128). -/
def checkFreq (s : State) (f : BitVec 32) : State :=
  if freqInRange (s.freqInt f) then s else s.raiseFault .freqRange .freqRange

/-- The bits of a buffer in the order of transmission: MSB first within each byte (R193). -/
def bitsOf (B : List Byte) : List Bool :=
  B.flatMap fun b => [b.getLsbD 7, b.getLsbD 6, b.getLsbD 5, b.getLsbD 4, b.getLsbD 3, b.getLsbD 2, b.getLsbD 1,
    b.getLsbD 0]

/-- The events of a list of bits: a consumed tick for each, and a pulse for each 0, the offset states alternating from
`sel` (R194, R198, R199). -/
def bitEvents (s : State) : Bool → List Bool → List Event
  | _, [] => []
  | sel, true :: bs => .tick :: bitEvents s sel bs
  | sel, false :: bs => .tick :: pulseEvents s sel ++ bitEvents s (!sel) bs

/-- How many of the bits are 0. -/
def zeros (bs : List Bool) : Nat := bs.count false

/-- OFFSET_SEL after `z` pulses (R199): XOR with `z mod 2`. -/
def togglesTo (sel : Bool) (z : Nat) : Bool := sel ^^ decide (z % 2 = 1)

/-- The micro-steps that a frequency out of range adds: `fault F_FREQ_RANGE` (R128). -/
def freqFaultSteps (s : State) (f : BitVec 32) : Nat := if freqInRange (s.freqInt f) then 0 else 1

/-! ## Invariants -/

/-- TXBUF is in its canonical form, and the reserved fields of ERR and PROFILE read 0 (R27, R30, R66). -/
abbrev formInv (s : State) : Prop := s.txbuf.wf ∧ s.err.extractLsb' 8 8 = 0#8 ∧ s.profile.extractLsb' 3 13 = 0#13

/-- A statement that can be the last of SEQ: it ends the command or places more. -/
def endsCommand : Micro → Bool
  | .clearBusy | .dispatch | .processBit => true
  | .op _ | .freqByte _ | .setFreqReg | .setPaEn _ | .setLnaEn _ | .recordFe | .setRxIrqEn | .recordIrqEn
  | .setRadioState _ | .setChipMode _ | .setOffsetSel _ | .incModCount | .setTmrCount _ | .setArmed | .setSysState _
  | .clearBitIndex | .setBitTotal | .leaveTxStart | .incBitIndex | .leaveTxProcessing | .recordFault _ => false

/-- BUSY is 0 exactly when SEQ is idle (R21, R22), and then no transaction is in flight; while BUSY = 1 a statement
that ends the command is still to come. -/
def seqInv (s : State) : Prop :=
  match s.busy with
  | false => s.seq = [] ∧ s.bus = none
  | true => ∃ m, s.seq.getLast? = some m ∧ endsCommand m = true

/-- The statements that the cursor's bounds depend on. -/
def cursorOp : Micro → Bool
  | .clearBitIndex | .setBitTotal | .incBitIndex | .dispatch | .processBit => true
  | .op _ | .freqByte _ | .setFreqReg | .setPaEn _ | .setLnaEn _ | .recordFe | .setRxIrqEn | .recordIrqEn
  | .setRadioState _ | .setChipMode _ | .setOffsetSel _ | .incModCount | .setTmrCount _ | .setArmed | .setSysState _
  | .leaveTxStart | .leaveTxProcessing | .clearBusy | .recordFault _ => false

/-- BIT_INDEX <= BIT_TOTAL (R42), with what makes it inductive: where in TXSTART_BODY or TXPROC_BODY SEQ stands. -/
def cursorInv (s : State) : Prop :=
  (s.busy = false → s.seq = []) ∧ s.bitIndex ≤ s.bitTotal ∧
  match s.seq.filter cursorOp with
  | [] | [.dispatch] | [.processBit] | [.clearBitIndex, .setBitTotal, .dispatch] => True
  | [.setBitTotal, .dispatch] => s.bitIndex = 0#11
  | [.incBitIndex, .dispatch] => s.bitIndex < s.bitTotal
  | _ => False

/-- What SEQ still runs: the statements before the `BUSY <- 0` that ends it. -/
def toRun (s : State) : List Micro := s.seq.takeWhile (· != .clearBusy)

/-- The statements that write RADIO_STATE and CHIP_MODE. -/
def modeOp : Micro → Bool
  | .setRadioState _ | .setChipMode _ => true
  | .op _ | .freqByte _ | .setFreqReg | .setPaEn _ | .setLnaEn _ | .recordFe | .setRxIrqEn | .recordIrqEn
  | .setOffsetSel _ | .incModCount | .setTmrCount _ | .setArmed | .setSysState _ | .dispatch | .clearBitIndex
  | .setBitTotal | .leaveTxStart | .processBit | .incBitIndex | .leaveTxProcessing | .clearBusy | .recordFault _ => false

/-- The statements from which a MODULATE can come. -/
def pulsing : Micro → Bool
  | .op .modulate | .dispatch | .processBit => true
  | _ => false

/-- RADIO_STATE agrees with a ready CHIP_MODE outside INIT_CHIP's last statements, and is TX_MODE wherever a MODULATE
can come, and SEQ holds no `fault F_INTERNAL` (R25, R95, R133). -/
def modeInv (s : State) : Prop :=
  (s.busy = false → s.seq = []) ∧
  (match (toRun s).filter modeOp with
    | [] => (s.chipMode = .txReady → s.radioState = .tx) ∧ (s.chipMode = .rxReady → s.radioState = .rx)
    | [.setRadioState m, .setChipMode c] => c = readyMode m
    | [.setChipMode c] => c = .idle ∨ c = readyMode s.radioState
    | _ => False) ∧
  ((toRun s).any pulsing = true → s.radioState = .tx ∧ (toRun s).filter modeOp = []) ∧
  .recordFault .internal ∉ s.seq

/-- A timed state as the untimed reading sees it: no running delay, no time on the port, and a counter that does not count
(R175, R275). -/
def untime (s : State) : State :=
  { s with cfg := { s.cfg with reading := .untimed }, hold := 0, busWait := 0, tmrCount := 0#16 }

/-- The moves of the untimed reading that a timed move is made of, in their order. -/
def untimedMoves : Move → List Move
  | .host => [.host]
  | .seq => [.seq]
  | .bus r => [.bus r]
  | .tick => []
  | .tclk => [.tick]
  | .cycle _ _ => [.host, .seq, .tick]
  | .rst b => [.rst b]

/-- Moves one after another, whatever is scheduled. -/
def runMoves : List Move → State → Result
  | [], s => .next s
  | m :: ms, s => andThen (stepMove m s) (runMoves ms)

/-- Whether the statement reads TMR_COUNT, whose value the two readings do not share (R276). -/
def readsTmrCount : HostStmt → Bool
  | .r16 off | .poll off _ _ => off == 0x018#9
  | .w16 _ _ | .w8 _ _ | .r8 _ => false

/-! ## Timing (durations in `tclk` periods) -/

/-- `t_proc` for a profile (R270); `tSeq` is the time of the TSM's own micro-steps. -/
def procTime (p : Params) (profile : BitVec 3) (tSeq : Nat) : Nat :=
  let r := profile.getLsbD 1
  2 * (p.rampTable.sel r).length * (p.tWrite + p.rampStepDelay.sel r) + 2 * p.tWrite + p.phaseHoldDelay.sel profile + tSeq

/-- The tick budget (R270). -/
abbrev tickBudget (p : Params) (profile : BitVec 3) (tSeq : Nat) : Prop :=
  procTime p profile tSeq < (p.tickPeriod.sel (profile.getLsbD 1)).toNat

/-- The first bit period (R278), which must exceed the time of one micro-step (R271). -/
def firstPeriod (p : Params) : Nat := p.tickSeed.toNat + 1

/-- The ramp overhead of one CarrierUp and one CarrierDown (R278). -/
def rampOverhead (p : Params) (r : Bool) : Nat :=
  2 * (p.rampTable.sel r).length * (p.tWrite + p.rampStepDelay.sel r) + (if p.carrierStrobes then 2 * p.tStrobe else 0)

/-- The nominal preloads (R172): 600 Hz and 100 Hz. DESIGN CHOICE (log 25): where `F_TCLK` is no multiple of the rate the
quotient is rounded down, since R172 says "nominally" and gives no rounding. -/
abbrev nominalPeriods (p : Params) : Prop :=
  p.tickPeriod.zero.toNat = p.fTclk / 600 ∧ p.tickPeriod.one.toNat = p.fTclk / 100

end Sys2Proof.Safety
end

