-- ==== Sys2Proof/Certificates/Slice0/Obligations.lean ====
section
/-! DEFINITION. The statements for the provers. The following are the model's: a schedule (log 2), SEQ as a list of
statements (log 4), how many micro-steps a piece of pseudocode takes (logs 7, 16), the issue and the completion of a bus
operation as two steps (log 8), `freqQ` (log 10), durations in clock edges (log 11), and `withFetchWord` (log 15). -/

open Sys2Proof Sys2Proof.Machine Sys2Proof.Safety

/-! ## Encoding -/

/-- R92: "The concrete words are". -/
def Obligations.CommandWordsDecode : Prop :=
  decodeTableWord 16 0b0000000000000001 = some (.initChip .tx) ∧
  decodeTableWord 16 0b0000000000010001 = some (.initChip .rx) ∧
  decodeTableWord 16 0b0000000000000010 = some .closeChip ∧
  decodeTableWord 16 0b0000000000000011 = some .setFreq ∧
  decodeTableWord 16 0b0000000100000100 = some (.send 1#8) ∧
  decodeTableWord 16 0b0000000000000101 = some .startCarrier ∧
  decodeTableWord 16 0b0000000000000110 = some .stopCarrier ∧
  decodeTableWord 16 0b0000000000000000 = none

/-- Decode and encode agree, through the bytes of the host bus and whatever bytes follow (R63, R91, R92). -/
def Obligations.DecodeOfEncodeIsTheInstruction : Prop :=
  ∀ (i : Instr) (w : Word) (rest : List Byte), i.wellFormed = true → encode i = some w →
    decodeBytes (w.extractLsb' 0 8 :: w.extractLsb' 8 8 :: rest) = .ok (i, rest)

/-- Each word has one meaning (R92, R93): the word of what a word decodes to is that word. -/
def Obligations.EncodeOfDecodeIsTheWord : Prop :=
  ∀ (w : Word) (i : Instr), decodeWord w = .ok i → encode i = some w ∧ i.isCommand = true

/-- R94: well-formed exactly when a row matches; the illegal words; what an illegal word does. -/
def Obligations.WordsAreLegalExactlyAsTheRowsSay : Prop :=
  ∀ (w : Word),
    ((∃ i, decodeWord w = .ok i) ↔ ∃ r ∈ cmdTable, w &&& r.mask = r.pattern) ∧
    ((∀ i, decodeWord w ≠ .ok i) ↔
      (w.extractLsb' 0 4 = 0#4 ∨ 7#4 ≤ w.extractLsb' 0 4 ∨ (w.getLsbD 4 = true ∧ w.extractLsb' 0 4 ≠ 1#4) ∨
        w.extractLsb' 5 3 ≠ 0#3 ∨ (w.extractLsb' 8 8 ≠ 0#8 ∧ w.extractLsb' 0 4 ≠ 4#4))) ∧
    ∀ s : State, (∀ i, decodeWord w ≠ .ok i) → presentCommand w s = .next { s with err := s.err ||| 0x0001#16 }

/-! ## Steps -/

/-- A step runs the decoded command: with BUSY = 0 and `rst` released, presenting its word runs `exec` of it (R90). -/
def Obligations.StepRunsThePresentedCommand : Prop :=
  ∀ (s : State) (w : Word) (i : Instr), s.rst = false → s.busy = false → decodeWord w = .ok i →
    step (s.withFetchWord 16 w.toNat) = exec i s

/-- A step of the sequencer runs the micro-operation at the head of SEQ (R21), taken off it. -/
def Obligations.StepRunsTheNextMicroOperation : Prop :=
  ∀ (s : State) (ms : List Move) (i : Instr) (rest : List Micro), s.rst = false → s.script = .seq :: ms →
    s.sequencerFree = true → s.seq = .op i :: rest → step s = exec i { s with script := ms, seq := rest }

/-! ## Acceptance -/

/-- R90: a word written to CMD while BUSY = 0 is refused or accepted. SEQ is the program's statements (log 4). -/
def Obligations.CommandWriteIsRefusedOrAccepted : Prop :=
  ∀ (s : State) (w : Word), s.busy = false →
    ((∀ i, decodeWord w ≠ .ok i) → memWrite 0x000#9 .w16 w s = .next { s with err := s.err ||| 0x0001#16 }) ∧
    ∀ i, decodeWord w = .ok i →
      (admitted s.chipMode i = false → memWrite 0x000#9 .w16 w s = .next { s with err := s.err ||| 0x0002#16 }) ∧
      (admitted s.chipMode i = true →
        let a : State := { s with
          cmd := w, curOp := w.extractLsb' 0 4, curMode := w.extractLsb' 4 1, curLen := w.extractLsb' 8 8
          profL := s.profile.extractLsb' 0 3, freqL := s.freq, busy := true }
        memWrite 0x000#9 .w16 w s = .next { a with seq := commandProgram i a } ∧ commandProgram i a ≠ [])

/-- R95: the admission table. -/
def Obligations.CommandsAreAdmittedByChipMode : Prop :=
  ∀ (s : State) (i : Instr), s.busy = false → i.isCommand = true →
    let allowed : Prop := match i with
      | .initChip _ | .closeChip => True
      | .setFreq => s.chipMode = .txReady ∨ s.chipMode = .rxReady
      | _ => s.chipMode = .txReady
    (allowed → ∃ t, exec i s = .next t ∧ t.busy = true ∧ t.err = s.err) ∧
    (¬ allowed → exec i s = .next { s with err := s.err ||| 0x0002#16 })

/-! ## The radio bus and the delay -/

/-- R120: BusStrobe records and issues the strobe, the sequencer waits, and the port completes with `ok` or `err`,
in a step of its own (log 8) and in the timed reading no sooner than its time `t_S` (R275, log 11). -/
def Obligations.BusStrobeIssuesThenCompletes : Prop :=
  ∀ (s : State) (c : Byte), s.bus = none →
    (s.cfg.reading = .untimed → exec (.busStrobe c) s = .next { s with
      hist := s.hist ++ [.strobe c], bus := some (.strobe c) }) ∧
    (s.cfg.reading = .timed → exec (.busStrobe c) s = .next { s with
      hist := s.hist ++ [.strobe c], bus := some (.strobe c), busWait := s.cfg.tStrobe }) ∧
    ∀ t : State, t.rst = false → t.bus = some (.strobe c) →
      (∀ ms, t.script = .seq :: ms → step t = .next { t with script := ms }) ∧
      (∀ r ms, t.busWait ≠ 0 → t.script = .bus r :: ms → step t = .next { t with script := ms }) ∧
      ∀ r ms, t.busWait = 0 → t.script = .bus r :: ms → step t = .next (match r with
        | .ok => { t with script := ms, bus := none }
        | .err => { t with
            script := ms, bus := none, err := t.err ||| 0x0020#16, faults := { t.faults with bus := true } })

/-- R121: BusWrite likewise (log 8), for one or more bytes, with the time `t_W`. -/
def Obligations.BusWriteIssuesThenCompletes : Prop :=
  ∀ (s : State) (a : RadioAddr) (bs : List Byte), s.bus = none → bs ≠ [] →
    (s.cfg.reading = .untimed → exec (.busWrite a bs) s = .next { s with
      hist := s.hist ++ [.write a bs], bus := some (.write a bs) }) ∧
    (s.cfg.reading = .timed → exec (.busWrite a bs) s = .next { s with
      hist := s.hist ++ [.write a bs], bus := some (.write a bs), busWait := s.cfg.tWrite }) ∧
    ∀ t : State, t.rst = false → t.bus = some (.write a bs) →
      (∀ ms, t.script = .seq :: ms → step t = .next { t with script := ms }) ∧
      (∀ r ms, t.busWait ≠ 0 → t.script = .bus r :: ms → step t = .next { t with script := ms }) ∧
      ∀ r ms, t.busWait = 0 → t.script = .bus r :: ms → step t = .next (match r with
        | .ok => { t with script := ms, bus := none }
        | .err => { t with
            script := ms, bus := none, err := t.err ||| 0x0020#16, faults := { t.faults with bus := true } })

/-- R121, R100: a write carries at least one byte; the form without one is refused by name (log 14). -/
def Obligations.BusWriteOfNoByteIsRefused : Prop :=
  ∀ (s : State) (a : RadioAddr), exec (.busWrite a []) s = .refused .emptyBusWrite

/-- R77: while a transaction is in flight another one waits, itself still next, and the sequencer has no step. -/
def Obligations.OneTransactionAtATime : Prop :=
  ∀ (s : State), s.bus ≠ none →
    (∀ c, exec (.busStrobe c) s = .next { s with seq := .op (.busStrobe c) :: s.seq }) ∧
    (∀ a bs, bs ≠ [] → exec (.busWrite a bs) s = .next { s with seq := .op (.busWrite a bs) :: s.seq }) ∧
    ∀ ms, s.script = .seq :: ms → step s = .next { s with script := ms }

/-- R122: Delay records `D(d)`; it holds the sequencer in the timed reading, for the delay's length (log 11). -/
def Obligations.DelayRecordsAndHolds : Prop :=
  ∀ (s : State) (d : DelayId),
    (s.cfg.reading = .untimed → exec (.delay d) s = .next { s with hist := s.hist ++ [.delay d] }) ∧
    (s.cfg.reading = .timed →
      exec (.delay d) s = .next { s with hist := s.hist ++ [.delay d], hold := s.delayLength d }) ∧
    ∀ ms, s.hold ≠ 0 → s.script = .seq :: ms → step s = .next { s with script := ms }

/-! ## Ramps, offset, frequency, modulation, carrier -/

/-- RampUp writes the table from index 0 up and RampDown from its end down, a delay after every write; neither changes
anything else (R123, R124). -/
def Obligations.RampsWalkOneTableInOppositeOrders : Prop :=
  ∀ s : State, calm s → s.busy = true → s.rampTable ≠ [] →
    completesAs .rampUp s (2 * s.rampTable.length - 1) { s with script := [], hist := s.hist ++ rampUpEvents s } ∧
    completesAs .rampDown s (2 * s.rampTable.length - 1) { s with script := [], hist := s.hist ++ rampDownEvents s }

/-- R125: one burst, high byte first; its completion is a later step (log 8), in the timed reading no
sooner than its time `t_W` (log 11). -/
def Obligations.WriteOffsetIsOneBurst : Prop :=
  ∀ (s : State) (v : BitVec 16), s.bus = none →
    let bs : List Byte := [v.extractLsb' 8 8, v.extractLsb' 0 8]
    let t : State := { s with
      hist := s.hist ++ [.write s.cfg.addrFreqOff1 bs], bus := some (.write s.cfg.addrFreqOff1 bs) }
    (s.cfg.reading = .untimed → exec (.writeOffset v) s = .next t) ∧
    (s.cfg.reading = .timed → exec (.writeOffset v) s = .next { t with busWait := s.cfg.tWrite })

/-- R128, R129: the frequency value, its range, and what lies outside it: E_FREQ_RANGE, and as the next micro-step
F_FREQ_RANGE. `q` is returned in `freqQ` (logs 7, 10). -/
def Obligations.ComputeFreqRegTruncatesTowardZero : Prop :=
  ∀ (s : State) (f : BitVec 32),
    let k1 := s.cfg.k1.sel s.xtal
    let k2 := s.cfg.k2.sel s.xtal
    let q : Int := match s.cfg.freqArith with
      | .exact => (k1.num * f.toNat / k1.den : Nat) - (k2.num * s.offsetNeutral.toInt).tdiv k2.den
      | .opaqueFn => Config.freqArithFn s.xtal .k1 f.toNat - Config.freqArithFn s.xtal .k2 s.offsetNeutral.toInt
    (0 ≤ q ∧ q < 2 ^ 24 → exec (.computeFreqReg f) s = .next { s with freqQ := BitVec.ofInt 24 q }) ∧
    (¬ (0 ≤ q ∧ q < 2 ^ 24) → exec (.computeFreqReg f) s = .next { s with
      freqQ := BitVec.ofInt 24 q, err := s.err ||| 0x0008#16, seq := .recordFault .freqRange :: s.seq }) ∧
    ∀ ms rest, s.rst = false → s.script = .seq :: ms → s.sequencerFree = true →
      s.seq = .recordFault .freqRange :: rest →
      step s = .next { s with script := ms, seq := rest, faults := { s.faults with freqRange := true } }

/-- R130: the inverse formula recovers the frequency within the stated bound, under EXACT. -/
def Obligations.FrequencyRoundTripIsWithinTheStatedBound : Prop :=
  ∀ (p : Params) (x : Bool) (neutral : BitVec 16) (f : BitVec 32), p.wf → p.freqArith = .exact →
    let k1 : ℚ := ((p.k1.sel x).num : ℚ) / (p.k1.sel x).den
    let k2 : ℚ := ((p.k2.sel x).num : ℚ) / (p.k2.sel x).den
    let q : ℚ := (freqInt p x neutral f : ℚ)
    let b : ℚ := (freqProduct p x .k2 neutral.toInt : ℚ)
    |(q + k2 * neutral.toInt) / k1 - f.toNat| < 1 / k1 + |k2 * neutral.toInt - b| / k1

/-- ProgramFrequency: the neutral pair, the value, then LSB, middle, MSB, then FREQ_REG (R131, R73). -/
def Obligations.ProgramFrequencyWritesLsbFirst : Prop :=
  ∀ (s : State) (f : BitVec 32), calm s → s.busy = true →
    completesAs (.programFrequency f) s (5 + freqFaultSteps s f)
      { checkFreq s f with
        script := [], hist := s.hist ++ programFrequencyEvents s f
        freqQ := freqWord (s.freqInt f), freqReg := freqWord (s.freqInt f) }

/-- MODULATE: one pulse with the offset state OFFSET_SEL names, then the toggle and the count (R133). Outside TX_MODE it
records F_INTERNAL besides. -/
def Obligations.ModulateIsOnePulse : Prop :=
  ∀ s : State, calm s → s.busy = true → s.rampTable ≠ [] →
    completesAs .modulate s (4 * s.rampTable.length + 4 + (if s.radioState = .tx then 0 else 1))
      { s with
        script := [], hist := s.hist ++ pulseEvents s s.offsetSel
        offsetSel := !s.offsetSel, modCount := s.modCount + 1
        faults := if s.radioState = .tx then s.faults else { s.faults with internal := true } }

/-- CarrierUp: STX where strobes are ON, then the ramp up (R134). -/
def Obligations.CarrierUpStrobesThenRamps : Prop :=
  ∀ s : State, calm s → s.busy = true → s.rampTable ≠ [] →
    completesAs .carrierUp s (2 * s.rampTable.length - 1 + (if s.cfg.carrierStrobes then 1 else 0))
      { s with script := [], hist := s.hist ++ carrierUpEvents s }

/-- CarrierDown: the ramp down, then SIDLE where strobes are ON (R135). -/
def Obligations.CarrierDownRampsThenStrobes : Prop :=
  ∀ s : State, calm s → s.busy = true → s.rampTable ≠ [] →
    completesAs .carrierDown s (2 * s.rampTable.length - 1 + (if s.cfg.carrierStrobes then 1 else 0))
      { s with script := [], hist := s.hist ++ carrierDownEvents s }

/-! ## The timer -/

/-- R170, R171: TIMER_START latches the preload, loads the seed, and arms; TIMER_STOP disarms and clears (log 7:
in three and in two micro-steps). -/
def Obligations.TimerStartArmsAndTimerStopDisarms : Prop :=
  ∀ s : State, calm s → s.busy = true →
    completesAs .timerStart s 2
      { s with
        script := [], tmrPeriodL := s.cfg.tickPeriod.sel (s.profL.getLsbD 1), tmrCount := s.cfg.tickSeed
        tmrArmed := true } ∧
    completesAs .timerStop s 1 { s with script := [], tmrArmed := false, tmrCount := 0#16 }

/-- R176: TICK under both settings of TICK_GATING. -/
def Obligations.TickIsConsumedOnlyInTxWaiting : Prop :=
  ∀ s : State,
    (s.sysState = .txWaiting →
      exec .tick s = .next { s with sysState := .txProcessing, hist := s.hist ++ [.tick] }) ∧
    (s.sysState ≠ .txWaiting → s.cfg.tickGating = .gated →
      exec .tick s = .next { s with err := s.err ||| 0x0010#16 }) ∧
    (s.sysState ≠ .txWaiting → s.cfg.tickGating = .literal →
      exec .tick s = .next { s with err := s.err ||| 0x0010#16, sysState := .txProcessing })

/-- R174: the counter on a rising edge of `tclk`, in the timed reading. The edge also counts a running delay
and the port's time down (log 11). -/
def Obligations.ClockEdgeCountsDownAndReloads : Prop :=
  ∀ (s : State) (ms : List Move), s.rst = false → s.cfg.reading = .timed → s.script = .tclk :: ms →
    let e : State := { s with script := ms, hold := s.hold - 1, busWait := s.busWait - 1 }
    (s.tmrArmed = false → step s = .next e) ∧
    (s.tmrArmed = true → s.tmrCount ≠ 0#16 → step s = .next { e with tmrCount := s.tmrCount - 1#16 }) ∧
    (s.tmrArmed = true → s.tmrCount = 0#16 →
      step s = exec .tick { e with tmrCount := s.tmrPeriodL - 1#16 })

/-- R175: in the untimed reading the timer has the step TICK exactly while armed, and the clock changes nothing. -/
def Obligations.UntimedTimerTicksOnlyWhileArmed : Prop :=
  ∀ (s : State) (ms : List Move), s.rst = false → s.cfg.reading = .untimed →
    (s.script = .tick :: ms → s.tmrArmed = true → step s = exec .tick { s with script := ms }) ∧
    (s.script = .tick :: ms → s.tmrArmed = false → step s = .next { s with script := ms }) ∧
    (s.script = .tclk :: ms → step s = .next { s with script := ms })

/-- R227: the order within one clock cycle, by its four consequences, the first for each flag that a cycle can raise
after the host's access: FREQ_RANGE, CURSOR_OVERRUN and TICK_ABSORBED. BUS_FAULT is raised by a completion, which falls
between cycles, and a cycle is one of `tclk`; the last clause, that the edge of the cycle in which TIMER_START arms does not
count (R174), is the model's reading too (log 24). -/
def Obligations.SameCycleEventsAreOrdered : Prop :=
  ∀ (s : State) (ms : List Move) (rest : List Micro) (prog : List HostStmt), s.rst = false →
    s.cfg.reading = .timed → s.sequencerFree = true →
    (∀ f v, s.script = .cycle true true :: ms → s.hostProg = .w16 0x004#9 v :: prog →
      s.seq = .op (.computeFreqReg f) :: rest → freqInRange (s.freqInt f) = false →
      ∃ t, step s = .next t ∧ t.err.getLsbD 3 = true) ∧
    (∀ v, s.script = .cycle true true :: ms → s.hostProg = .w16 0x004#9 v :: prog → s.seq = .processBit :: rest →
      s.bitTotal ≤ s.bitIndex → ∃ t, step s = .next t ∧ t.err.getLsbD 7 = true) ∧
    (∀ v, s.script = .cycle true false :: ms → s.hostProg = .w16 0x004#9 v :: prog → s.tmrArmed = true →
      s.tmrCount = 0#16 → s.sysState ≠ .txWaiting → ∃ t, step s = .next t ∧ t.err.getLsbD 4 = true) ∧
    (∀ w, s.script = .cycle true true :: ms → s.hostProg = .w16 0x000#9 w :: prog → s.seq = .clearBusy :: rest →
      ∃ t, step s = .next t ∧ t.busy = false ∧ t.cmd = s.cmd ∧ t.seq = [] ∧ t.err.getLsbD 2 = true) ∧
    (s.script = .cycle false true :: ms → s.seq = .op .timerStop :: rest → s.tmrArmed = true → s.tmrCount = 0#16 →
      ∃ t, step s = .next t ∧ t.tmrArmed = false ∧ t.sysState = s.sysState ∧ t.hist = s.hist ∧ t.err = s.err) ∧
    (s.script = .cycle false true :: ms → s.seq = .leaveTxProcessing :: rest → s.bitIndex ≠ s.bitTotal →
      s.tmrArmed = true → s.tmrCount = 0#16 →
      ∃ t, step s = .next t ∧ t.sysState = .txProcessing ∧ t.hist = s.hist ++ [.tick] ∧ t.err = s.err) ∧
    (s.script = .cycle false true :: ms → s.seq = .setArmed :: rest → s.tmrArmed = false →
      ∃ t, step s = .next t ∧ t.tmrArmed = true ∧ t.tmrCount = s.tmrCount ∧ t.err = s.err)

/-- R275: every step of the timed reading is one of the untimed reading, a sequence of up to three (a clock cycle), or
none, once the counter, the running delay and the port's time are left out of sight. The one exception is a host read of
TMR_COUNT, whose value the two readings do not share (R276). -/
def Obligations.TimedStepsAreUntimedSteps : Prop :=
  ∀ (s t : State) (m : Move), s.cfg.reading = .timed →
    (m = .host ∨ (∃ q, m = .cycle true q) → readsTmrCount s.nextStmt = false) → stepMove m s = .next t →
    ∃ ms t', ms.Sublist (untimedMoves m) ∧ runMoves ms (untime s) = .next t' ∧ untime t' = untime t

/-! ## The host commands, from acceptance to the end -/

/-- INIT_CHIP: its whole effect, with every transaction completing `ok` (R140). -/
def Obligations.InitChipRunsToItsEnd : Prop :=
  ∀ (s : State) (m : RadioMode), calm s → s.busy = false →
    let a : State := s.latch (if m = .tx then 0x0001#16 else 0x0011#16)
    completesAs (.initChip m) s
      (11 + (a.modeTable m).length + freqFaultSteps a a.freqL + (if a.frontEnd then 3 else 0) +
        (if m = .rx then 2 else 0))
      { checkFreq a a.freqL with
        script := [], busy := false, seq := []
        freqQ := freqWord (a.freqInt a.freqL), freqReg := freqWord (a.freqInt a.freqL)
        paEn := if a.frontEnd then decide (m = .tx) else s.paEn
        lnaEn := if a.frontEnd then decide (m = .rx) else s.lnaEn
        rxIrqEn := if m = .rx then true else s.rxIrqEn
        radioState := m
        chipMode := if m = .tx then .txReady else .rxReady
        hist := s.hist ++ [.strobe s.cfg.strobeSres, .strobe s.cfg.strobeSidle] ++
          (a.modeTable m).map (fun e => .write e.1 [e.2]) ++ programFrequencyEvents a a.freqL ++
          (if a.frontEnd then [.frontEnd (decide (m = .tx)) (decide (m = .rx))] else []) ++
          (if m = .rx then [.irqEn true] else []) }

/-- CLOSE_CHIP: the idle strobe and CHIP_MODE, in every CHIP_MODE and whatever the bus answers (R141). -/
def Obligations.CloseChipRunsToItsEnd : Prop :=
  ∀ s : State, calm s → s.busy = false →
    let a : State := s.latch 0x0002#16
    let u : State := { a with
      script := [], busy := false, seq := [], chipMode := .idle, hist := s.hist ++ [.strobe s.cfg.strobeSidle] }
    completesAs .closeChip s 3 u ∧
    ∃ t, exec .closeChip s = .next t ∧ runScript [.seq, .bus .err, .seq, .seq] t =
      .next { u with err := s.err ||| 0x0020#16, faults := { s.faults with bus := true } }

/-- SET_FREQ in TX_READY and RX_READY (R142). -/
def Obligations.SetFreqRunsToItsEnd : Prop :=
  ∀ s : State, calm s → s.busy = false → (s.chipMode = .txReady ∨ s.chipMode = .rxReady) →
    let a : State := s.latch 0x0003#16
    completesAs .setFreq s (7 + freqFaultSteps a a.freqL)
      { checkFreq a a.freqL with
        script := [], busy := false, seq := [], hist := s.hist ++ programFrequencyEvents a a.freqL
        freqQ := freqWord (a.freqInt a.freqL), freqReg := freqWord (a.freqInt a.freqL) }

/-- START_CARRIER in TX_READY (R143). -/
def Obligations.StartCarrierRunsToItsEnd : Prop :=
  ∀ s : State, calm s → s.busy = false → s.chipMode = .txReady →
    let a : State := s.latch 0x0005#16
    a.rampTable ≠ [] →
    completesAs .startCarrier s (2 * a.rampTable.length + 1 + (if s.cfg.carrierStrobes then 1 else 0))
      { a with script := [], busy := false, seq := [], hist := s.hist ++ carrierUpEvents a }

/-- STOP_CARRIER in TX_READY (R144). -/
def Obligations.StopCarrierRunsToItsEnd : Prop :=
  ∀ s : State, calm s → s.busy = false → s.chipMode = .txReady →
    let a : State := s.latch 0x0006#16
    a.rampTable ≠ [] →
    completesAs .stopCarrier s (2 * a.rampTable.length + 1 + (if s.cfg.carrierStrobes then 1 else 0))
      { a with script := [], busy := false, seq := [], hist := s.hist ++ carrierDownEvents a }

/-- SEND of length 0: the carrier up and down, no tick consumed (R191, R198 item 4). -/
def Obligations.SendOfLengthZeroRunsToItsEnd : Prop :=
  ∀ s : State, calm s → s.busy = false → s.chipMode = .txReady →
    let a : State := s.latch 0x0004#16
    a.rampTable ≠ [] →
    completesAs (.send 0#8) s (4 * a.rampTable.length + 12 + (if s.cfg.carrierStrobes then 2 else 0))
      { a with
        script := [], busy := false, seq := [], sysState := .txEnd, bitIndex := 0#11, bitTotal := 0#11
        tmrPeriodL := a.tickPeriod, tmrCount := 0#16, tmrArmed := false
        hist := s.hist ++ carrierUpEvents a ++ carrierDownEvents a }

/-- SEND of any length has a schedule that completes it with the history and the registers of R198 and R199, and no tick
absorbed. -/
def Obligations.SendCompletesUnderSomeSchedule : Prop :=
  ∀ (s : State) (len : Byte) (B : List Byte) (sel0 : Bool), calm s → sendLaunch len B sel0 s →
    s.cfg.tickGating = .gated →
    let a : State := s.latch (len ++ 0x04#8)
    a.rampTable ≠ [] →
    ∃ t ms, exec (.send len) s = .next t ∧ ms.all plainMove = true ∧ runScript ms t =
      .next { a with
        script := [], busy := false, seq := [], sysState := .txEnd
        bitIndex := 8#11 * len.setWidth 11, bitTotal := 8#11 * len.setWidth 11
        tmrPeriodL := a.tickPeriod, tmrCount := 0#16, tmrArmed := false
        offsetSel := togglesTo sel0 (zeros (bitsOf B)), modCount := s.modCount + BitVec.ofNat 16 (zeros (bitsOf B))
        hist := s.hist ++ carrierUpEvents a ++ bitEvents a sel0 (bitsOf B) ++ carrierDownEvents a }

/-- R198 to R200 under GATED: whatever the schedule of micro-steps, ticks and completions, a SEND that has ended leaves
exactly that history and those registers; only ERR.TICK_ABSORBED depends on the schedule. -/
def Obligations.SendIsTheSameUnderEverySchedule : Prop :=
  ∀ (s t u : State) (len : Byte) (B : List Byte) (sel0 : Bool) (ms : List Move), calm s → sendLaunch len B sel0 s →
    s.cfg.tickGating = .gated →
    let a : State := s.latch (len ++ 0x04#8)
    a.rampTable ≠ [] → exec (.send len) s = .next t → ms.all plainMove = true → runScript ms t = .next u →
    u.busy = false →
    u = { a with
      script := [], busy := false, seq := [], sysState := .txEnd
      bitIndex := 8#11 * len.setWidth 11, bitTotal := 8#11 * len.setWidth 11
      tmrPeriodL := a.tickPeriod, tmrCount := 0#16, tmrArmed := false
      offsetSel := togglesTo sel0 (zeros (bitsOf B)), modCount := s.modCount + BitVec.ofNat 16 (zeros (bitsOf B))
      hist := s.hist ++ carrierUpEvents a ++ bitEvents a sel0 (bitsOf B) ++ carrierDownEvents a
      err := u.err } ∧ (u.err = s.err ∨ u.err = s.err ||| 0x0010#16)

/-! ## The transmission state machine -/

/-- R193: the bit at the cursor, MSB first; a byte that holds no value records F_UNWRITTEN, and its value is free
(log 6). -/
def Obligations.CursorBitIsMsbFirst : Prop :=
  ∀ s : State,
    (∀ b, s.txbuf.read (s.bitIndex.toNat / 8) = some b →
      cursorBit s = (b.getLsbD (7 - s.bitIndex.toNat % 8), s)) ∧
    (s.txbuf.read (s.bitIndex.toNat / 8) = none →
      (cursorBit s).2 = { s with faults := { s.faults with unwritten := true } })

/-- TXPROC_BODY within the cursor's range (R194): a 1 bit issues nothing, a 0 bit one pulse; the cursor advances. -/
def Obligations.EachBitAdvancesTheCursor : Prop :=
  ∀ (s : State) (b : Byte), calm s → s.busy = true → s.rampTable ≠ [] → s.radioState = .tx →
    s.seq = [.processBit] → s.bitIndex < s.bitTotal → s.txbuf.read (s.bitIndex.toNat / 8) = some b →
    let one := b.getLsbD (7 - s.bitIndex.toNat % 8)
    runScript (okSchedule (if one then 2 else 4 * s.rampTable.length + 7)) s =
      .next { s with
        script := [], seq := [.dispatch], bitIndex := s.bitIndex + 1
        sysState := if s.bitIndex + 1 = s.bitTotal then .txEnd else .txWaiting
        hist := s.hist ++ (if one then [] else pulseEvents s s.offsetSel)
        offsetSel := if one then s.offsetSel else !s.offsetSel
        modCount := if one then s.modCount else s.modCount + 1 }

/-- R194, R195: TXPROC_BODY past the end raises, faults and goes to TxEnd. THE MODEL'S OWN (log 7, from R8): that these are
three micro-steps, and that the test of the cursor belongs to the first. -/
def Obligations.OverrunGoesToTxEnd : Prop :=
  ∀ (s : State) (rest : List Micro), calm s → s.busy = true → s.seq = .processBit :: rest →
    s.bitTotal ≤ s.bitIndex →
    runScript [.seq, .seq, .seq] s = .next { s with
      script := [], seq := .dispatch :: rest, sysState := .txEnd, err := s.err ||| 0x0080#16
      faults := { s.faults with cursorOverrun := true } }

/-- R192, R197: DISPATCH selects the body by SYS_STATE; in TxWaiting the sequencer stays where it is, changing nothing;
Idle has no body, and the model stops there (log 13). -/
def Obligations.DispatchFollowsSysState : Prop :=
  ∀ (s : State) (ms : List Move) (rest : List Micro), s.rst = false → s.script = .seq :: ms →
    s.sequencerFree = true → s.seq = .dispatch :: rest →
    (s.sysState = .txStart → step s = .next { s with script := ms, seq := txStartBody ++ rest }) ∧
    (s.sysState = .txWaiting → step s = .next { s with script := ms }) ∧
    (s.sysState = .txProcessing → step s = .next { s with script := ms, seq := .processBit :: rest }) ∧
    (s.sysState = .txEnd → step s = .next { s with script := ms, seq := txEndBody ++ rest }) ∧
    (s.sysState = .idle → step s = .fault .dispatchIdle)

/-- R192: nothing but a tick ends TxWaiting (block reset apart), in the untimed reading; a tick does. -/
def Obligations.OnlyATickEndsTxWaiting : Prop :=
  ∀ (s : State) (ms : List Move), s.rst = false → s.cfg.reading = .untimed → s.busy = true → s.bus = none →
    s.seq = [.dispatch] → s.tmrArmed = true → s.sysState = .txWaiting → (∀ m ∈ ms, m ≠ .tick ∧ ∀ b, m ≠ .rst b) →
    (∃ u, runScript ms s = .next u ∧ u.sysState = .txWaiting ∧ u.seq = [.dispatch] ∧ u.hist = s.hist) ∧
    (∃ v, runScript (ms ++ [.tick]) s = .next v ∧ v.sysState = .txProcessing ∧ v.hist = s.hist ++ [.tick])

/-! ## The host window -/

/-- R29: STATUS, field by field, and a write to it ignored. -/
def Obligations.StatusShowsEveryField : Prop :=
  ∀ s : State,
    let w := (memRead 0x002#9 .w16 s).rdata
    w.getLsbD 0 = s.busy ∧
    w.extractLsb' 1 3 = (match s.sysState with
      | .idle => 0#3 | .txStart => 1#3 | .txWaiting => 2#3 | .txProcessing => 3#3 | .txEnd => 4#3) ∧
    w.extractLsb' 4 2 = (match s.chipMode with
      | .uninit => 0#2 | .txReady => 1#2 | .rxReady => 2#2 | .idle => 3#2) ∧
    w.getLsbD 6 = decide (s.radioState = .rx) ∧ w.getLsbD 7 = s.tmrArmed ∧ w.getLsbD 8 = s.offsetSel ∧
    w.extractLsb' 9 7 = 0#7 ∧
    ∀ v, s.busy = false → memWrite 0x002#9 .w16 v s = .next s

/-- The other registers of R62 read as their state, and a read changes nothing else. Every read is idempotent (R67), also
of a TXBUF byte that nothing has written (logs 6, 17). -/
def Obligations.HostReadReturnsTheNamedRegister : Prop :=
  ∀ s : State,
    memRead 0x000#9 .w16 s = { s with rdata := s.cmd } ∧
    memRead 0x004#9 .w16 s = { s with rdata := s.err } ∧
    memRead 0x006#9 .w16 s = { s with rdata := s.profile } ∧
    memRead 0x008#9 .w16 s = { s with rdata := s.freq.extractLsb' 0 16 } ∧
    memRead 0x00A#9 .w16 s = { s with rdata := s.freq.extractLsb' 16 16 } ∧
    memRead 0x00C#9 .w16 s = { s with rdata := s.bitIndex.setWidth 16 } ∧
    memRead 0x00E#9 .w16 s = { s with rdata := s.bitTotal.setWidth 16 } ∧
    memRead 0x010#9 .w16 s =
      { s with rdata := 0#13 ++ BitVec.ofBool s.rxIrqEn ++ BitVec.ofBool s.lnaEn ++ BitVec.ofBool s.paEn } ∧
    memRead 0x012#9 .w16 s = { s with rdata := s.freqReg.extractLsb' 0 16 } ∧
    memRead 0x014#9 .w16 s = { s with rdata := 0#8 ++ s.freqReg.extractLsb' 16 8 } ∧
    memRead 0x016#9 .w16 s = { s with rdata := s.modCount } ∧
    memRead 0x018#9 .w16 s = { s with rdata := s.tmrCount } ∧
    ∀ off w, memRead off w (memRead off w s) = memRead off w s

/-- R64: an access of an illegal width or alignment raises E_ACCESS; a write is dropped and a read returns 0. Every
other access raises no E_ACCESS. -/
def Obligations.IllegalAccessIsRefused : Prop :=
  ∀ (s : State) (off : Offset) (w : Width) (v : Word),
    ((w = .w8 ∧ off.toNat < 0x100 ∨ w = .w16 ∧ off.toNat % 2 = 1) →
      memWrite off w v s = .next { s with err := s.err ||| 0x0040#16 } ∧
      memRead off w s = { s with err := s.err ||| 0x0040#16, rdata := 0#16 }) ∧
    ((w = .w8 ∧ 0x100 ≤ off.toNat ∨ w = .w16 ∧ off.toNat % 2 = 0) →
      (∀ t, memWrite off w v s = .next t → t.err.getLsbD 6 = true → s.err.getLsbD 6 = true) ∧
      (memRead off w s).err = s.err)

/-- R65: while BUSY = 1 a legal write is dropped with E_BUSY_WRITE, except to ERR; reads are not blocked. A write to ERR
clears the bits written as 1, whatever BUSY (R30, R69). -/
def Obligations.BusyWriteIsDroppedAndErrIsWriteOneToClear : Prop :=
  ∀ (s : State) (off : Offset) (w : Width) (v : Word),
    (s.busy = true → (w = .w8 ∧ 0x100 ≤ off.toNat ∨ w = .w16 ∧ off.toNat % 2 = 0) →
      (off ≠ 0x004#9 → memWrite off w v s = .next { s with err := s.err ||| 0x0004#16 }) ∧
      (memRead off w s).err = s.err) ∧
    memWrite 0x004#9 .w16 v s = .next { s with err := s.err &&& ~~~v &&& 0x00FF#16 }

/-- R66: reserved offsets and fields read 0; writes to them and to read-only registers are ignored. -/
def Obligations.ReservedAndReadOnlyLocations : Prop :=
  ∀ (s : State) (v : Word),
    (∀ off : Offset, 0x01A ≤ off.toNat → off.toNat < 0x100 → off.toNat % 2 = 0 →
      memRead off .w16 s = { s with rdata := 0#16 } ∧ (s.busy = false → memWrite off .w16 v s = .next s)) ∧
    (memRead 0x1FF#9 .w8 s = { s with rdata := 0#16 } ∧ (s.busy = false → memWrite 0x1FF#9 .w8 v s = .next s)) ∧
    (∀ off ∈ [0x002#9, 0x00C#9, 0x00E#9, 0x010#9, 0x012#9, 0x014#9, 0x016#9, 0x018#9],
      s.busy = false → memWrite off .w16 v s = .next s) ∧
    ((memRead 0x002#9 .w16 s).rdata.extractLsb' 9 7 = 0#7 ∧ (memRead 0x010#9 .w16 s).rdata.extractLsb' 3 13 = 0#13 ∧
      (memRead 0x014#9 .w16 s).rdata.extractLsb' 8 8 = 0#8) ∧
    (formInv s → (memRead 0x004#9 .w16 s).rdata.extractLsb' 8 8 = 0#8 ∧
      (memRead 0x006#9 .w16 s).rdata.extractLsb' 3 13 = 0#13) ∧
    (s.busy = false → memWrite 0x006#9 .w16 v s = .next { s with profile := 0#13 ++ v.extractLsb' 0 3 })

/-- R63: little-endian, in TXBUF, in FREQ and in FREQ_REG; every other byte stays. -/
def Obligations.HostWindowIsLittleEndian : Prop :=
  ∀ (s : State) (v : Word), s.busy = false →
    (∀ k : Nat, k ≤ 126 → ∃ t, memWrite (BitVec.ofNat 9 (0x100 + 2 * k)) .w16 v s = .next t ∧
      t = { s with txbuf := t.txbuf } ∧ t.txbuf.read (2 * k) = some (v.extractLsb' 0 8) ∧
      t.txbuf.read (2 * k + 1) = some (v.extractLsb' 8 8) ∧
      (∀ j, j ≠ 2 * k → j ≠ 2 * k + 1 → t.txbuf.read j = s.txbuf.read j) ∧
      memRead (BitVec.ofNat 9 (0x100 + 2 * k)) .w16 t = { t with rdata := v }) ∧
    (∃ t, memWrite 0x1FE#9 .w16 v s = .next t ∧ t = { s with txbuf := t.txbuf } ∧
      t.txbuf.read 254 = some (v.extractLsb' 0 8) ∧ (∀ j, j ≠ 254 → t.txbuf.read j = s.txbuf.read j) ∧
      memRead 0x1FE#9 .w16 t = { t with rdata := 0#8 ++ v.extractLsb' 0 8 }) ∧
    (∀ k : Nat, k ≤ 254 → ∃ t, memWrite (BitVec.ofNat 9 (0x100 + k)) .w8 v s = .next t ∧
      t = { s with txbuf := t.txbuf } ∧ t.txbuf.read k = some (v.extractLsb' 0 8) ∧
      (∀ j, j ≠ k → t.txbuf.read j = s.txbuf.read j) ∧
      memRead (BitVec.ofNat 9 (0x100 + k)) .w8 t = { t with rdata := 0#8 ++ v.extractLsb' 0 8 }) ∧
    memWrite 0x008#9 .w16 v s = .next { s with freq := s.freq.extractLsb' 16 16 ++ v } ∧
    memWrite 0x00A#9 .w16 v s = .next { s with freq := v ++ s.freq.extractLsb' 0 16 } ∧
    (memRead 0x014#9 .w16 s).rdata ++ (memRead 0x012#9 .w16 s).rdata = (0#8 ++ s.freqReg : BitVec 32)

/-- R235: the window stands at the base address that the platform chooses, and nothing outside it reaches the block. -/
def Obligations.HostAddressesAreRelativeToTheBase : Prop :=
  ∀ (s : State) (w : Width) (v : Word),
    (∀ off : Offset, addressWrite (s.cfg.dmcsBase + off.toNat) w v s = memWrite off w v s ∧
      addressRead (s.cfg.dmcsBase + off.toNat) w s = memRead off w s) ∧
    ∀ a, a < s.cfg.dmcsBase ∨ s.cfg.dmcsBase + 512 ≤ a → addressWrite a w v s = .next s ∧ addressRead a w s = s

/-- R98: a POLL repeats its read until the condition holds. -/
def Obligations.PollRepeatsUntilItsCondition : Prop :=
  ∀ (s : State) (ms : List Move) (off : Offset) (mask want : Word) (prog : List HostStmt), s.rst = false →
    s.script = .host :: ms → s.hostProg = .poll off mask want :: prog →
    let t : State := memRead off .w16 { s with script := ms, hostProg := prog }
    (t.rdata &&& mask = want → step s = .next t) ∧
    (t.rdata &&& mask ≠ want → step s = .next { t with hostProg := s.hostProg })

/-- R98, R99: what the lines of a host program stand for, and which do not assemble. -/
def Obligations.ProgramLinesAssembleToAccesses : Prop :=
  AsmStmt.assemble (.initChip .tx) = some [.w16 0x000#9 0x0001#16] ∧
  AsmStmt.assemble (.initChip .rx) = some [.w16 0x000#9 0x0011#16] ∧
  AsmStmt.assemble .closeChip = some [.w16 0x000#9 0x0002#16] ∧
  AsmStmt.assemble .setFreq = some [.w16 0x000#9 0x0003#16] ∧
  AsmStmt.assemble .startCarrier = some [.w16 0x000#9 0x0005#16] ∧
  AsmStmt.assemble .stopCarrier = some [.w16 0x000#9 0x0006#16] ∧
  (∀ n, n < 256 → AsmStmt.assemble (.send n) = some [.w16 0x000#9 (BitVec.ofNat 16 (n * 256 + 4))]) ∧
  (∀ n, 256 ≤ n → AsmStmt.assemble (.send n) = none) ∧
  (∀ hz : BitVec 32, AsmStmt.assemble (.setf hz.toNat) =
    some [.w16 0x008#9 (hz.extractLsb' 0 16), .w16 0x00A#9 (hz.extractLsb' 16 16)]) ∧
  (∀ x r fe : BitVec 1, AsmStmt.assemble (.prof x.toNat r.toNat fe.toNat) =
    some [.w16 0x006#9 (0#13 ++ fe ++ r ++ x)]) ∧
  (∀ bs : List Byte, bs ≠ [] → bs.length ≤ 255 → AsmStmt.assemble (.loadtx (bs.map (·.toNat))) =
    some (bs.zipIdx.map fun e => .w8 (BitVec.ofNat 9 (0x100 + e.2)) e.1)) ∧
  AsmStmt.assemble .waitidle = some [.poll 0x002#9 0x0001#16 0x0000#16] ∧
  AsmStmt.assemble .clrerr = some [.w16 0x004#9 0x00FF#16]

/-! ## Reset -/

/-- R45: the reset value of every state element. -/
def Obligations.ResetLeavesTheValuesOfR45 : Prop :=
  let s := State.reset
  s.busy = false ∧ s.seq = [] ∧ s.sysState = .idle ∧ s.chipMode = .uninit ∧ s.radioState = .tx ∧ s.cmd = 0#16 ∧
  s.profile = 0#16 ∧ s.freq = 0#32 ∧ s.err = 0#16 ∧ s.bitIndex = 0#11 ∧ s.bitTotal = 0#11 ∧ s.offsetSel = false ∧
  s.modCount = 0#16 ∧ s.freqReg = 0#24 ∧ s.paEn = false ∧ s.lnaEn = false ∧ s.rxIrqEn = false ∧
  s.tmrArmed = false ∧ s.tmrCount = 0#16 ∧ (∀ k, s.txbuf.read k = none) ∧ s.curOp = 0#4 ∧ s.curMode = 0#1 ∧
  s.curLen = 0#8 ∧ s.profL = 0#3 ∧ s.freqL = 0#32 ∧ s.tmrPeriodL = 0#16 ∧ s.faults = FaultSet.empty ∧ s.hist = []

/-- R260, R262: after `rst` is released, in whatever state it was asserted, every element holds its reset value, and no
agent steps while it is asserted. Asserting it is no step of the run, and a new run starts at its release (R262). THE
MODEL'S OWN: that the reset values stand already while `rst` is asserted, which is in the first clause, and what lies
outside the block and stays (log 12); that `rdata`, `freqQ`, `hold` and `busWait`, to which R45 gives no value, are 0
(log 10); that no transaction is in flight after reset (log 9). -/
def Obligations.BlockResetAbandonsEverything : Prop :=
  ∀ (s : State) (m : Move) (ms : List Move), s.script = m :: ms →
    let z : State := { State.reset with
      cfg := s.cfg, script := ms, hostProg := s.hostProg, draws := s.draws, resets := s.resets + 1 }
    (m = .rst true → step s = .next { z with rst := true } ∧ ∀ t, ¬ runStep s t) ∧
    (s.rst = true → m = .rst false → step s = .next z ∧ startsRun z) ∧
    (s.rst = true → (∀ b, m ≠ .rst b) → step s = .next { s with script := ms })

/-! ## Invariants and whole-machine rules -/

/-- Every step keeps TXBUF canonical and the reserved fields 0. -/
def Obligations.EveryStepKeepsTheForms : Prop := ∀ s t : State, formInv s → step s = .next t → formInv t

/-- Every step keeps BUSY and SEQ together (R21, R22). -/
def Obligations.EveryStepKeepsBusyAndSeqTogether : Prop := ∀ s t : State, seqInv s → step s = .next t → seqInv t

/-- Every step keeps the cursor within its bounds (R42), under both settings of TICK_GATING. -/
def Obligations.EveryStepKeepsTheCursorInRange : Prop := ∀ s t : State, cursorInv s → step s = .next t → cursorInv t

/-- Every step keeps RADIO_STATE in step with CHIP_MODE, and F_INTERNAL is never recorded (R133: "unreachable"). -/
def Obligations.ModulateNeverRunsOutsideTxMode : Prop :=
  ∀ s t : State, modeInv s → step s = .next t → modeInv t ∧ (t.faults.internal = true → s.faults.internal = true)

/-- The reset state meets the four invariants. -/
def Obligations.ResetMeetsTheInvariants : Prop :=
  formInv State.reset ∧ seqInv State.reset ∧ cursorInv State.reset ∧ modeInv State.reset

/-- No step changes the platform's parameters (R6, R264 step 1). -/
def Obligations.ParametersNeverChange : Prop := ∀ s t : State, step s = .next t → t.cfg = s.cfg

/-- R40: FAULTS and HIST are cleared by no step but block reset, and are empty at reset. -/
def Obligations.HistoryAndFaultsAreNeverCleared : Prop :=
  (∀ (s t : State) (m : Move) (ms : List Move), s.rst = false → s.script = m :: ms → m ≠ .rst true →
    step s = .next t → s.hist <+: t.hist ∧ ∀ f, s.faults.has f = true → t.faults.has f = true) ∧
  State.reset.hist = [] ∧ State.reset.faults = FaultSet.empty

/-- R39, R65, R82: while BUSY = 1 no step but block reset changes what the command works on. -/
def Obligations.BusyFreezesTheOperands : Prop :=
  ∀ (s t : State) (m : Move) (ms : List Move), s.rst = false → s.busy = true → s.script = m :: ms → m ≠ .rst true →
    step s = .next t →
    t.cmd = s.cmd ∧ t.profile = s.profile ∧ t.freq = s.freq ∧ t.txbuf = s.txbuf ∧ t.curOp = s.curOp ∧
    t.curMode = s.curMode ∧ t.curLen = s.curLen ∧ t.profL = s.profL ∧ t.freqL = s.freqL

/-- The only writers of each register of 10_state.md (R22 to R39), ERR apart: the statement of SEQ, or the agent. Of ERR,
that only the host clears a flag (R30, R220). -/
def Obligations.OnlyTheNamedWritersWrite : Prop :=
  ∀ (s t : State) (m : Move) (ms : List Move), s.rst = false → s.script = m :: ms → m ≠ .rst true →
    (∀ h q, m ≠ .cycle h q) → step s = .next t →
    let runs (p : Micro → Prop) : Prop := m = .seq ∧ ∃ x rest, s.seq = x :: rest ∧ p x
    (t.radioState ≠ s.radioState → runs fun x => ∃ v, x = .setRadioState v) ∧
    (t.chipMode ≠ s.chipMode → runs fun x => ∃ v, x = .setChipMode v) ∧
    (t.offsetSel ≠ s.offsetSel → runs fun x => ∃ v, x = .setOffsetSel v) ∧
    (t.modCount ≠ s.modCount → runs fun x => x = .incModCount) ∧
    (t.freqReg ≠ s.freqReg → runs fun x => x = .setFreqReg) ∧
    (t.paEn ≠ s.paEn → runs fun x => ∃ v, x = .setPaEn v) ∧
    (t.lnaEn ≠ s.lnaEn → runs fun x => ∃ v, x = .setLnaEn v) ∧
    (t.rxIrqEn ≠ s.rxIrqEn → runs fun x => x = .setRxIrqEn) ∧
    (t.bitIndex ≠ s.bitIndex → runs fun x => x = .clearBitIndex ∨ x = .processBit ∨ x = .incBitIndex) ∧
    (t.bitTotal ≠ s.bitTotal → runs fun x => x = .setBitTotal) ∧
    (t.sysState ≠ s.sysState → t.sysState = .txProcessing ∧ (m = .tick ∨ m = .tclk) ∨
      runs fun x => (∃ v, x = .setSysState v) ∨ x = .op .tick ∨ x = .leaveTxStart ∨ x = .leaveTxProcessing) ∧
    (t.txbuf ≠ s.txbuf ∨ t.profile ≠ s.profile ∨ t.freq ≠ s.freq → m = .host ∧ s.busy = false) ∧
    (t.cmd ≠ s.cmd ∨ t.curOp ≠ s.curOp ∨ t.curMode ≠ s.curMode ∨ t.curLen ≠ s.curLen ∨ t.profL ≠ s.profL ∨
      t.freqL ≠ s.freqL → m = .host ∧ s.busy = false ∧ t.busy = true) ∧
    (t.busy ≠ s.busy → m = .host ∧ t.busy = true ∨ t.busy = false ∧ runs fun x => x = .clearBusy) ∧
    (t.tmrArmed ≠ s.tmrArmed → runs fun x => x = .setArmed ∨ x = .op .timerStop) ∧
    (t.tmrCount ≠ s.tmrCount → m = .tclk ∨ runs fun x => ∃ v, x = .setTmrCount v) ∧
    (t.tmrPeriodL ≠ s.tmrPeriodL → runs fun x => x = .op .timerStart) ∧
    (s.err &&& ~~~t.err ≠ 0#16 → m = .host)
end

