-- ==== Sys2Proof/Laws/Memory.lean ====
section
/-! SUPPORT. TXBUF as memory: read after write, and the canonical form. -/

namespace Sys2Proof.Machine

theorem Memory.read_write_same (m : Memory) (k : Nat) (b : Byte) : (Memory.write m k b).read k = some b := by
  induction m with
  | nil => simp [Memory.write, Memory.read]
  | cons c m ih =>
    by_cases h1 : k < c.1
    · simp [Memory.write, Memory.read, h1]
    · by_cases h2 : c.1 = k
      · simp [Memory.write, Memory.read, h2]
      · simp [Memory.write, Memory.read, h1, h2, ih]

theorem Memory.read_write_other (m : Memory) {j k : Nat} (b : Byte) (h : j ≠ k) :
    (Memory.write m k b).read j = m.read j := by
  induction m with
  | nil => simp [Memory.write, Memory.read, Ne.symm h]
  | cons c m ih =>
    by_cases h1 : k < c.1
    · simp [Memory.write, Memory.read, h1, Ne.symm h]
    · by_cases h2 : c.1 = k
      · subst h2; simp [Memory.write, Memory.read, Ne.symm h]
      · simp [Memory.write, Memory.read, h1, h2, ih]

/-- The indices of a written memory: the one written and those there before. -/
theorem Memory.mem_write {m : Memory} {k : Nat} {b : Byte} {c : Host.Cell} (h : c ∈ Memory.write m k b) :
    c = (k, b) ∨ c ∈ m := by
  induction m with
  | nil => simpa [Memory.write] using h
  | cons d m ih =>
    by_cases h1 : k < d.1
    · simpa [Memory.write, h1] using h
    · by_cases h2 : d.1 = k
      · rw [Memory.write, if_neg h1, if_pos h2] at h
        exact (List.mem_cons.1 h).imp_right (List.mem_cons_of_mem _)
      · rw [Memory.write, if_neg h1, if_neg h2] at h
        rcases List.mem_cons.1 h with h | h
        · exact .inr (h ▸ List.mem_cons_self)
        · exact (ih h).imp_right (List.mem_cons_of_mem _)

theorem Memory.wf_nil : Memory.wf [] := ⟨.nil, by simp⟩

/-- Every write of one of the 255 bytes keeps the canonical form. -/
theorem Memory.write_wf {m : Memory} {k : Nat} {b : Byte} (hm : m.wf) (hk : k < 255) : (Memory.write m k b).wf := by
  refine ⟨?_, fun c hc => (Memory.mem_write hc).elim (fun h => h ▸ hk) (hm.2 c)⟩
  have hp := hm.1
  clear hm
  induction m with
  | nil => simp [Memory.write]
  | cons d m ih =>
    obtain ⟨hd, hm⟩ := List.pairwise_cons.1 hp
    by_cases h1 : k < d.1
    · rw [Memory.write, if_pos h1]
      refine List.pairwise_cons.2 ⟨fun c hc => ?_, hp⟩
      rcases List.mem_cons.1 hc with rfl | hc
      · exact h1
      · exact Nat.lt_trans h1 (hd c hc)
    · by_cases h2 : d.1 = k
      · rw [Memory.write, if_neg h1, if_pos h2]
        subst h2
        exact List.pairwise_cons.2 ⟨hd, hm⟩
      · rw [Memory.write, if_neg h1, if_neg h2]
        refine List.pairwise_cons.2 ⟨fun c hc => ?_, ih hm⟩
        rcases Memory.mem_write hc with rfl | hc
        · show d.1 < k
          omega
        · exact hd c hc

/-- A read of a byte that holds a value. -/
theorem readTx_of_some {k : Nat} {s : State} {b : Byte} (h : s.txbuf.read k = some b) : readTx k s = (b, s) := by
  simp [readTx, h]

/-- What a read of TXBUF can change: FAULTS, and nothing where the byte has a value. -/
theorem readTx_state (k : Nat) (s : State) :
    (readTx k s).2 = s ∨ (readTx k s).2 = s.recordFault .unwritten := by
  unfold readTx
  split
  · exact .inl rfl
  · exact .inr rfl

/-- A read of TXBUF changes neither TXBUF nor what names the free values, so a second one answers the same (R67). -/
theorem readTx_again (k : Nat) (s : State) : readTx k (readTx k s).2 = readTx k s := by
  cases h : s.txbuf.read k with
  | some b => rw [readTx_of_some h, readTx_of_some h]
  | none => simp [readTx, h, State.recordFault, FaultSet.add]

theorem txbuf_index {n k : Nat} (hn : 0x100 ≤ n ∧ n ≤ 0x1FE) (h : n - 0x100 = k) : k < 255 ∧ n = 0x100 + k := by
  omega

/-- The TXBUF indices of the register map. -/
theorem locate_txbuf {off : Offset} {k : Nat} (h : locate off = .txbuf k) : k < 255 ∧ off.toNat = 0x100 + k := by
  unfold locate at h
  split at h <;> try cases h
  split at h
  · exact txbuf_index ‹_› (by simpa using h)
  · cases h

theorem writeTx_wf {k : Nat} {b : Byte} {s : State} (hs : s.txbuf.wf) (hk : k < 255) : (writeTx k b s).txbuf.wf :=
  Memory.write_wf hs hk

theorem writeTxByteAt_wf {off : Offset} {b : Byte} {s : State} (hs : s.txbuf.wf) :
    (writeTxByteAt off b s).txbuf.wf := by
  unfold writeTxByteAt
  split
  · exact writeTx_wf hs (locate_txbuf ‹_›).1
  · exact hs
  · exact hs

theorem reset_txbuf_wf : State.reset.txbuf.wf := Memory.wf_nil

end Sys2Proof.Machine
end

