-- ==== Sys2Proof/Laws/State.lean ====
section
/-! SUPPORT. One lemma per field per named update of State, true by rfl. -/

namespace Sys2Proof.Machine

variable (s : State)

/-! ## raise -/

@[simp] theorem State.raise_cfg (e : ErrFlag) : (s.raise e).cfg = s.cfg := rfl
@[simp] theorem State.raise_script (e : ErrFlag) : (s.raise e).script = s.script := rfl
@[simp] theorem State.raise_hostProg (e : ErrFlag) : (s.raise e).hostProg = s.hostProg := rfl
@[simp] theorem State.raise_draws (e : ErrFlag) : (s.raise e).draws = s.draws := rfl
@[simp] theorem State.raise_resets (e : ErrFlag) : (s.raise e).resets = s.resets := rfl
@[simp] theorem State.raise_rst (e : ErrFlag) : (s.raise e).rst = s.rst := rfl
@[simp] theorem State.raise_rdata (e : ErrFlag) : (s.raise e).rdata = s.rdata := rfl
@[simp] theorem State.raise_busy (e : ErrFlag) : (s.raise e).busy = s.busy := rfl
@[simp] theorem State.raise_seq (e : ErrFlag) : (s.raise e).seq = s.seq := rfl
@[simp] theorem State.raise_bus (e : ErrFlag) : (s.raise e).bus = s.bus := rfl
@[simp] theorem State.raise_hold (e : ErrFlag) : (s.raise e).hold = s.hold := rfl
@[simp] theorem State.raise_busWait (e : ErrFlag) : (s.raise e).busWait = s.busWait := rfl
@[simp] theorem State.raise_freqQ (e : ErrFlag) : (s.raise e).freqQ = s.freqQ := rfl
@[simp] theorem State.raise_curOp (e : ErrFlag) : (s.raise e).curOp = s.curOp := rfl
@[simp] theorem State.raise_curMode (e : ErrFlag) : (s.raise e).curMode = s.curMode := rfl
@[simp] theorem State.raise_curLen (e : ErrFlag) : (s.raise e).curLen = s.curLen := rfl
@[simp] theorem State.raise_profL (e : ErrFlag) : (s.raise e).profL = s.profL := rfl
@[simp] theorem State.raise_freqL (e : ErrFlag) : (s.raise e).freqL = s.freqL := rfl
@[simp] theorem State.raise_tmrPeriodL (e : ErrFlag) : (s.raise e).tmrPeriodL = s.tmrPeriodL := rfl
@[simp] theorem State.raise_sysState (e : ErrFlag) : (s.raise e).sysState = s.sysState := rfl
@[simp] theorem State.raise_chipMode (e : ErrFlag) : (s.raise e).chipMode = s.chipMode := rfl
@[simp] theorem State.raise_radioState (e : ErrFlag) : (s.raise e).radioState = s.radioState := rfl
@[simp] theorem State.raise_cmd (e : ErrFlag) : (s.raise e).cmd = s.cmd := rfl
@[simp] theorem State.raise_profile (e : ErrFlag) : (s.raise e).profile = s.profile := rfl
@[simp] theorem State.raise_freq (e : ErrFlag) : (s.raise e).freq = s.freq := rfl
@[simp] theorem State.raise_err (e : ErrFlag) : (s.raise e).err = s.err ||| e.bit := rfl
@[simp] theorem State.raise_bitIndex (e : ErrFlag) : (s.raise e).bitIndex = s.bitIndex := rfl
@[simp] theorem State.raise_bitTotal (e : ErrFlag) : (s.raise e).bitTotal = s.bitTotal := rfl
@[simp] theorem State.raise_offsetSel (e : ErrFlag) : (s.raise e).offsetSel = s.offsetSel := rfl
@[simp] theorem State.raise_modCount (e : ErrFlag) : (s.raise e).modCount = s.modCount := rfl
@[simp] theorem State.raise_freqReg (e : ErrFlag) : (s.raise e).freqReg = s.freqReg := rfl
@[simp] theorem State.raise_paEn (e : ErrFlag) : (s.raise e).paEn = s.paEn := rfl
@[simp] theorem State.raise_lnaEn (e : ErrFlag) : (s.raise e).lnaEn = s.lnaEn := rfl
@[simp] theorem State.raise_rxIrqEn (e : ErrFlag) : (s.raise e).rxIrqEn = s.rxIrqEn := rfl
@[simp] theorem State.raise_tmrArmed (e : ErrFlag) : (s.raise e).tmrArmed = s.tmrArmed := rfl
@[simp] theorem State.raise_tmrCount (e : ErrFlag) : (s.raise e).tmrCount = s.tmrCount := rfl
@[simp] theorem State.raise_txbuf (e : ErrFlag) : (s.raise e).txbuf = s.txbuf := rfl
@[simp] theorem State.raise_hist (e : ErrFlag) : (s.raise e).hist = s.hist := rfl
@[simp] theorem State.raise_faults (e : ErrFlag) : (s.raise e).faults = s.faults := rfl

/-! ## recordFault -/

@[simp] theorem State.recordFault_cfg (f : ModelFault) : (s.recordFault f).cfg = s.cfg := rfl
@[simp] theorem State.recordFault_script (f : ModelFault) : (s.recordFault f).script = s.script := rfl
@[simp] theorem State.recordFault_hostProg (f : ModelFault) : (s.recordFault f).hostProg = s.hostProg := rfl
@[simp] theorem State.recordFault_draws (f : ModelFault) : (s.recordFault f).draws = s.draws := rfl
@[simp] theorem State.recordFault_resets (f : ModelFault) : (s.recordFault f).resets = s.resets := rfl
@[simp] theorem State.recordFault_rst (f : ModelFault) : (s.recordFault f).rst = s.rst := rfl
@[simp] theorem State.recordFault_rdata (f : ModelFault) : (s.recordFault f).rdata = s.rdata := rfl
@[simp] theorem State.recordFault_busy (f : ModelFault) : (s.recordFault f).busy = s.busy := rfl
@[simp] theorem State.recordFault_seq (f : ModelFault) : (s.recordFault f).seq = s.seq := rfl
@[simp] theorem State.recordFault_bus (f : ModelFault) : (s.recordFault f).bus = s.bus := rfl
@[simp] theorem State.recordFault_hold (f : ModelFault) : (s.recordFault f).hold = s.hold := rfl
@[simp] theorem State.recordFault_busWait (f : ModelFault) : (s.recordFault f).busWait = s.busWait := rfl
@[simp] theorem State.recordFault_freqQ (f : ModelFault) : (s.recordFault f).freqQ = s.freqQ := rfl
@[simp] theorem State.recordFault_curOp (f : ModelFault) : (s.recordFault f).curOp = s.curOp := rfl
@[simp] theorem State.recordFault_curMode (f : ModelFault) : (s.recordFault f).curMode = s.curMode := rfl
@[simp] theorem State.recordFault_curLen (f : ModelFault) : (s.recordFault f).curLen = s.curLen := rfl
@[simp] theorem State.recordFault_profL (f : ModelFault) : (s.recordFault f).profL = s.profL := rfl
@[simp] theorem State.recordFault_freqL (f : ModelFault) : (s.recordFault f).freqL = s.freqL := rfl
@[simp] theorem State.recordFault_tmrPeriodL (f : ModelFault) : (s.recordFault f).tmrPeriodL = s.tmrPeriodL := rfl
@[simp] theorem State.recordFault_sysState (f : ModelFault) : (s.recordFault f).sysState = s.sysState := rfl
@[simp] theorem State.recordFault_chipMode (f : ModelFault) : (s.recordFault f).chipMode = s.chipMode := rfl
@[simp] theorem State.recordFault_radioState (f : ModelFault) : (s.recordFault f).radioState = s.radioState := rfl
@[simp] theorem State.recordFault_cmd (f : ModelFault) : (s.recordFault f).cmd = s.cmd := rfl
@[simp] theorem State.recordFault_profile (f : ModelFault) : (s.recordFault f).profile = s.profile := rfl
@[simp] theorem State.recordFault_freq (f : ModelFault) : (s.recordFault f).freq = s.freq := rfl
@[simp] theorem State.recordFault_err (f : ModelFault) : (s.recordFault f).err = s.err := rfl
@[simp] theorem State.recordFault_bitIndex (f : ModelFault) : (s.recordFault f).bitIndex = s.bitIndex := rfl
@[simp] theorem State.recordFault_bitTotal (f : ModelFault) : (s.recordFault f).bitTotal = s.bitTotal := rfl
@[simp] theorem State.recordFault_offsetSel (f : ModelFault) : (s.recordFault f).offsetSel = s.offsetSel := rfl
@[simp] theorem State.recordFault_modCount (f : ModelFault) : (s.recordFault f).modCount = s.modCount := rfl
@[simp] theorem State.recordFault_freqReg (f : ModelFault) : (s.recordFault f).freqReg = s.freqReg := rfl
@[simp] theorem State.recordFault_paEn (f : ModelFault) : (s.recordFault f).paEn = s.paEn := rfl
@[simp] theorem State.recordFault_lnaEn (f : ModelFault) : (s.recordFault f).lnaEn = s.lnaEn := rfl
@[simp] theorem State.recordFault_rxIrqEn (f : ModelFault) : (s.recordFault f).rxIrqEn = s.rxIrqEn := rfl
@[simp] theorem State.recordFault_tmrArmed (f : ModelFault) : (s.recordFault f).tmrArmed = s.tmrArmed := rfl
@[simp] theorem State.recordFault_tmrCount (f : ModelFault) : (s.recordFault f).tmrCount = s.tmrCount := rfl
@[simp] theorem State.recordFault_txbuf (f : ModelFault) : (s.recordFault f).txbuf = s.txbuf := rfl
@[simp] theorem State.recordFault_hist (f : ModelFault) : (s.recordFault f).hist = s.hist := rfl
@[simp] theorem State.recordFault_faults (f : ModelFault) : (s.recordFault f).faults = s.faults.add f := rfl

/-! ## record -/

@[simp] theorem State.record_cfg (e : Event) : (s.record e).cfg = s.cfg := rfl
@[simp] theorem State.record_script (e : Event) : (s.record e).script = s.script := rfl
@[simp] theorem State.record_hostProg (e : Event) : (s.record e).hostProg = s.hostProg := rfl
@[simp] theorem State.record_draws (e : Event) : (s.record e).draws = s.draws := rfl
@[simp] theorem State.record_resets (e : Event) : (s.record e).resets = s.resets := rfl
@[simp] theorem State.record_rst (e : Event) : (s.record e).rst = s.rst := rfl
@[simp] theorem State.record_rdata (e : Event) : (s.record e).rdata = s.rdata := rfl
@[simp] theorem State.record_busy (e : Event) : (s.record e).busy = s.busy := rfl
@[simp] theorem State.record_seq (e : Event) : (s.record e).seq = s.seq := rfl
@[simp] theorem State.record_bus (e : Event) : (s.record e).bus = s.bus := rfl
@[simp] theorem State.record_hold (e : Event) : (s.record e).hold = s.hold := rfl
@[simp] theorem State.record_busWait (e : Event) : (s.record e).busWait = s.busWait := rfl
@[simp] theorem State.record_freqQ (e : Event) : (s.record e).freqQ = s.freqQ := rfl
@[simp] theorem State.record_curOp (e : Event) : (s.record e).curOp = s.curOp := rfl
@[simp] theorem State.record_curMode (e : Event) : (s.record e).curMode = s.curMode := rfl
@[simp] theorem State.record_curLen (e : Event) : (s.record e).curLen = s.curLen := rfl
@[simp] theorem State.record_profL (e : Event) : (s.record e).profL = s.profL := rfl
@[simp] theorem State.record_freqL (e : Event) : (s.record e).freqL = s.freqL := rfl
@[simp] theorem State.record_tmrPeriodL (e : Event) : (s.record e).tmrPeriodL = s.tmrPeriodL := rfl
@[simp] theorem State.record_sysState (e : Event) : (s.record e).sysState = s.sysState := rfl
@[simp] theorem State.record_chipMode (e : Event) : (s.record e).chipMode = s.chipMode := rfl
@[simp] theorem State.record_radioState (e : Event) : (s.record e).radioState = s.radioState := rfl
@[simp] theorem State.record_cmd (e : Event) : (s.record e).cmd = s.cmd := rfl
@[simp] theorem State.record_profile (e : Event) : (s.record e).profile = s.profile := rfl
@[simp] theorem State.record_freq (e : Event) : (s.record e).freq = s.freq := rfl
@[simp] theorem State.record_err (e : Event) : (s.record e).err = s.err := rfl
@[simp] theorem State.record_bitIndex (e : Event) : (s.record e).bitIndex = s.bitIndex := rfl
@[simp] theorem State.record_bitTotal (e : Event) : (s.record e).bitTotal = s.bitTotal := rfl
@[simp] theorem State.record_offsetSel (e : Event) : (s.record e).offsetSel = s.offsetSel := rfl
@[simp] theorem State.record_modCount (e : Event) : (s.record e).modCount = s.modCount := rfl
@[simp] theorem State.record_freqReg (e : Event) : (s.record e).freqReg = s.freqReg := rfl
@[simp] theorem State.record_paEn (e : Event) : (s.record e).paEn = s.paEn := rfl
@[simp] theorem State.record_lnaEn (e : Event) : (s.record e).lnaEn = s.lnaEn := rfl
@[simp] theorem State.record_rxIrqEn (e : Event) : (s.record e).rxIrqEn = s.rxIrqEn := rfl
@[simp] theorem State.record_tmrArmed (e : Event) : (s.record e).tmrArmed = s.tmrArmed := rfl
@[simp] theorem State.record_tmrCount (e : Event) : (s.record e).tmrCount = s.tmrCount := rfl
@[simp] theorem State.record_txbuf (e : Event) : (s.record e).txbuf = s.txbuf := rfl
@[simp] theorem State.record_hist (e : Event) : (s.record e).hist = s.hist ++ [e] := rfl
@[simp] theorem State.record_faults (e : Event) : (s.record e).faults = s.faults := rfl

/-! ## before -/

@[simp] theorem State.before_cfg (ms : List Micro) : (s.before ms).cfg = s.cfg := rfl
@[simp] theorem State.before_script (ms : List Micro) : (s.before ms).script = s.script := rfl
@[simp] theorem State.before_hostProg (ms : List Micro) : (s.before ms).hostProg = s.hostProg := rfl
@[simp] theorem State.before_draws (ms : List Micro) : (s.before ms).draws = s.draws := rfl
@[simp] theorem State.before_resets (ms : List Micro) : (s.before ms).resets = s.resets := rfl
@[simp] theorem State.before_rst (ms : List Micro) : (s.before ms).rst = s.rst := rfl
@[simp] theorem State.before_rdata (ms : List Micro) : (s.before ms).rdata = s.rdata := rfl
@[simp] theorem State.before_busy (ms : List Micro) : (s.before ms).busy = s.busy := rfl
@[simp] theorem State.before_seq (ms : List Micro) : (s.before ms).seq = ms ++ s.seq := rfl
@[simp] theorem State.before_bus (ms : List Micro) : (s.before ms).bus = s.bus := rfl
@[simp] theorem State.before_hold (ms : List Micro) : (s.before ms).hold = s.hold := rfl
@[simp] theorem State.before_busWait (ms : List Micro) : (s.before ms).busWait = s.busWait := rfl
@[simp] theorem State.before_freqQ (ms : List Micro) : (s.before ms).freqQ = s.freqQ := rfl
@[simp] theorem State.before_curOp (ms : List Micro) : (s.before ms).curOp = s.curOp := rfl
@[simp] theorem State.before_curMode (ms : List Micro) : (s.before ms).curMode = s.curMode := rfl
@[simp] theorem State.before_curLen (ms : List Micro) : (s.before ms).curLen = s.curLen := rfl
@[simp] theorem State.before_profL (ms : List Micro) : (s.before ms).profL = s.profL := rfl
@[simp] theorem State.before_freqL (ms : List Micro) : (s.before ms).freqL = s.freqL := rfl
@[simp] theorem State.before_tmrPeriodL (ms : List Micro) : (s.before ms).tmrPeriodL = s.tmrPeriodL := rfl
@[simp] theorem State.before_sysState (ms : List Micro) : (s.before ms).sysState = s.sysState := rfl
@[simp] theorem State.before_chipMode (ms : List Micro) : (s.before ms).chipMode = s.chipMode := rfl
@[simp] theorem State.before_radioState (ms : List Micro) : (s.before ms).radioState = s.radioState := rfl
@[simp] theorem State.before_cmd (ms : List Micro) : (s.before ms).cmd = s.cmd := rfl
@[simp] theorem State.before_profile (ms : List Micro) : (s.before ms).profile = s.profile := rfl
@[simp] theorem State.before_freq (ms : List Micro) : (s.before ms).freq = s.freq := rfl
@[simp] theorem State.before_err (ms : List Micro) : (s.before ms).err = s.err := rfl
@[simp] theorem State.before_bitIndex (ms : List Micro) : (s.before ms).bitIndex = s.bitIndex := rfl
@[simp] theorem State.before_bitTotal (ms : List Micro) : (s.before ms).bitTotal = s.bitTotal := rfl
@[simp] theorem State.before_offsetSel (ms : List Micro) : (s.before ms).offsetSel = s.offsetSel := rfl
@[simp] theorem State.before_modCount (ms : List Micro) : (s.before ms).modCount = s.modCount := rfl
@[simp] theorem State.before_freqReg (ms : List Micro) : (s.before ms).freqReg = s.freqReg := rfl
@[simp] theorem State.before_paEn (ms : List Micro) : (s.before ms).paEn = s.paEn := rfl
@[simp] theorem State.before_lnaEn (ms : List Micro) : (s.before ms).lnaEn = s.lnaEn := rfl
@[simp] theorem State.before_rxIrqEn (ms : List Micro) : (s.before ms).rxIrqEn = s.rxIrqEn := rfl
@[simp] theorem State.before_tmrArmed (ms : List Micro) : (s.before ms).tmrArmed = s.tmrArmed := rfl
@[simp] theorem State.before_tmrCount (ms : List Micro) : (s.before ms).tmrCount = s.tmrCount := rfl
@[simp] theorem State.before_txbuf (ms : List Micro) : (s.before ms).txbuf = s.txbuf := rfl
@[simp] theorem State.before_hist (ms : List Micro) : (s.before ms).hist = s.hist := rfl
@[simp] theorem State.before_faults (ms : List Micro) : (s.before ms).faults = s.faults := rfl

/-! ## latch -/

@[simp] theorem State.latch_cfg (w : Word) : (s.latch w).cfg = s.cfg := rfl
@[simp] theorem State.latch_script (w : Word) : (s.latch w).script = s.script := rfl
@[simp] theorem State.latch_hostProg (w : Word) : (s.latch w).hostProg = s.hostProg := rfl
@[simp] theorem State.latch_draws (w : Word) : (s.latch w).draws = s.draws := rfl
@[simp] theorem State.latch_resets (w : Word) : (s.latch w).resets = s.resets := rfl
@[simp] theorem State.latch_rst (w : Word) : (s.latch w).rst = s.rst := rfl
@[simp] theorem State.latch_rdata (w : Word) : (s.latch w).rdata = s.rdata := rfl
@[simp] theorem State.latch_busy (w : Word) : (s.latch w).busy = true := rfl
@[simp] theorem State.latch_seq (w : Word) : (s.latch w).seq = s.seq := rfl
@[simp] theorem State.latch_bus (w : Word) : (s.latch w).bus = s.bus := rfl
@[simp] theorem State.latch_hold (w : Word) : (s.latch w).hold = s.hold := rfl
@[simp] theorem State.latch_busWait (w : Word) : (s.latch w).busWait = s.busWait := rfl
@[simp] theorem State.latch_freqQ (w : Word) : (s.latch w).freqQ = s.freqQ := rfl
@[simp] theorem State.latch_curOp (w : Word) : (s.latch w).curOp = opField w := rfl
@[simp] theorem State.latch_curMode (w : Word) : (s.latch w).curMode = modeField w := rfl
@[simp] theorem State.latch_curLen (w : Word) : (s.latch w).curLen = lenField w := rfl
@[simp] theorem State.latch_profL (w : Word) : (s.latch w).profL = s.profile.extractLsb' 0 3 := rfl
@[simp] theorem State.latch_freqL (w : Word) : (s.latch w).freqL = s.freq := rfl
@[simp] theorem State.latch_tmrPeriodL (w : Word) : (s.latch w).tmrPeriodL = s.tmrPeriodL := rfl
@[simp] theorem State.latch_sysState (w : Word) : (s.latch w).sysState = s.sysState := rfl
@[simp] theorem State.latch_chipMode (w : Word) : (s.latch w).chipMode = s.chipMode := rfl
@[simp] theorem State.latch_radioState (w : Word) : (s.latch w).radioState = s.radioState := rfl
@[simp] theorem State.latch_cmd (w : Word) : (s.latch w).cmd = w := rfl
@[simp] theorem State.latch_profile (w : Word) : (s.latch w).profile = s.profile := rfl
@[simp] theorem State.latch_freq (w : Word) : (s.latch w).freq = s.freq := rfl
@[simp] theorem State.latch_err (w : Word) : (s.latch w).err = s.err := rfl
@[simp] theorem State.latch_bitIndex (w : Word) : (s.latch w).bitIndex = s.bitIndex := rfl
@[simp] theorem State.latch_bitTotal (w : Word) : (s.latch w).bitTotal = s.bitTotal := rfl
@[simp] theorem State.latch_offsetSel (w : Word) : (s.latch w).offsetSel = s.offsetSel := rfl
@[simp] theorem State.latch_modCount (w : Word) : (s.latch w).modCount = s.modCount := rfl
@[simp] theorem State.latch_freqReg (w : Word) : (s.latch w).freqReg = s.freqReg := rfl
@[simp] theorem State.latch_paEn (w : Word) : (s.latch w).paEn = s.paEn := rfl
@[simp] theorem State.latch_lnaEn (w : Word) : (s.latch w).lnaEn = s.lnaEn := rfl
@[simp] theorem State.latch_rxIrqEn (w : Word) : (s.latch w).rxIrqEn = s.rxIrqEn := rfl
@[simp] theorem State.latch_tmrArmed (w : Word) : (s.latch w).tmrArmed = s.tmrArmed := rfl
@[simp] theorem State.latch_tmrCount (w : Word) : (s.latch w).tmrCount = s.tmrCount := rfl
@[simp] theorem State.latch_txbuf (w : Word) : (s.latch w).txbuf = s.txbuf := rfl
@[simp] theorem State.latch_hist (w : Word) : (s.latch w).hist = s.hist := rfl
@[simp] theorem State.latch_faults (w : Word) : (s.latch w).faults = s.faults := rfl

/-! ## raiseFault -/

@[simp] theorem State.raiseFault_cfg (e : ErrFlag) (f : ModelFault) : (s.raiseFault e f).cfg = s.cfg := rfl
@[simp] theorem State.raiseFault_script (e : ErrFlag) (f : ModelFault) : (s.raiseFault e f).script = s.script := rfl
@[simp] theorem State.raiseFault_hostProg (e : ErrFlag) (f : ModelFault) : (s.raiseFault e f).hostProg = s.hostProg := rfl
@[simp] theorem State.raiseFault_draws (e : ErrFlag) (f : ModelFault) : (s.raiseFault e f).draws = s.draws := rfl
@[simp] theorem State.raiseFault_resets (e : ErrFlag) (f : ModelFault) : (s.raiseFault e f).resets = s.resets := rfl
@[simp] theorem State.raiseFault_rst (e : ErrFlag) (f : ModelFault) : (s.raiseFault e f).rst = s.rst := rfl
@[simp] theorem State.raiseFault_rdata (e : ErrFlag) (f : ModelFault) : (s.raiseFault e f).rdata = s.rdata := rfl
@[simp] theorem State.raiseFault_busy (e : ErrFlag) (f : ModelFault) : (s.raiseFault e f).busy = s.busy := rfl
@[simp] theorem State.raiseFault_seq (e : ErrFlag) (f : ModelFault) : (s.raiseFault e f).seq = s.seq := rfl
@[simp] theorem State.raiseFault_bus (e : ErrFlag) (f : ModelFault) : (s.raiseFault e f).bus = s.bus := rfl
@[simp] theorem State.raiseFault_hold (e : ErrFlag) (f : ModelFault) : (s.raiseFault e f).hold = s.hold := rfl
@[simp] theorem State.raiseFault_busWait (e : ErrFlag) (f : ModelFault) : (s.raiseFault e f).busWait = s.busWait := rfl
@[simp] theorem State.raiseFault_freqQ (e : ErrFlag) (f : ModelFault) : (s.raiseFault e f).freqQ = s.freqQ := rfl
@[simp] theorem State.raiseFault_curOp (e : ErrFlag) (f : ModelFault) : (s.raiseFault e f).curOp = s.curOp := rfl
@[simp] theorem State.raiseFault_curMode (e : ErrFlag) (f : ModelFault) : (s.raiseFault e f).curMode = s.curMode := rfl
@[simp] theorem State.raiseFault_curLen (e : ErrFlag) (f : ModelFault) : (s.raiseFault e f).curLen = s.curLen := rfl
@[simp] theorem State.raiseFault_profL (e : ErrFlag) (f : ModelFault) : (s.raiseFault e f).profL = s.profL := rfl
@[simp] theorem State.raiseFault_freqL (e : ErrFlag) (f : ModelFault) : (s.raiseFault e f).freqL = s.freqL := rfl
@[simp] theorem State.raiseFault_tmrPeriodL (e : ErrFlag) (f : ModelFault) : (s.raiseFault e f).tmrPeriodL = s.tmrPeriodL := rfl
@[simp] theorem State.raiseFault_sysState (e : ErrFlag) (f : ModelFault) : (s.raiseFault e f).sysState = s.sysState := rfl
@[simp] theorem State.raiseFault_chipMode (e : ErrFlag) (f : ModelFault) : (s.raiseFault e f).chipMode = s.chipMode := rfl
@[simp] theorem State.raiseFault_radioState (e : ErrFlag) (f : ModelFault) : (s.raiseFault e f).radioState = s.radioState := rfl
@[simp] theorem State.raiseFault_cmd (e : ErrFlag) (f : ModelFault) : (s.raiseFault e f).cmd = s.cmd := rfl
@[simp] theorem State.raiseFault_profile (e : ErrFlag) (f : ModelFault) : (s.raiseFault e f).profile = s.profile := rfl
@[simp] theorem State.raiseFault_freq (e : ErrFlag) (f : ModelFault) : (s.raiseFault e f).freq = s.freq := rfl
@[simp] theorem State.raiseFault_err (e : ErrFlag) (f : ModelFault) : (s.raiseFault e f).err = s.err ||| e.bit := rfl
@[simp] theorem State.raiseFault_bitIndex (e : ErrFlag) (f : ModelFault) : (s.raiseFault e f).bitIndex = s.bitIndex := rfl
@[simp] theorem State.raiseFault_bitTotal (e : ErrFlag) (f : ModelFault) : (s.raiseFault e f).bitTotal = s.bitTotal := rfl
@[simp] theorem State.raiseFault_offsetSel (e : ErrFlag) (f : ModelFault) : (s.raiseFault e f).offsetSel = s.offsetSel := rfl
@[simp] theorem State.raiseFault_modCount (e : ErrFlag) (f : ModelFault) : (s.raiseFault e f).modCount = s.modCount := rfl
@[simp] theorem State.raiseFault_freqReg (e : ErrFlag) (f : ModelFault) : (s.raiseFault e f).freqReg = s.freqReg := rfl
@[simp] theorem State.raiseFault_paEn (e : ErrFlag) (f : ModelFault) : (s.raiseFault e f).paEn = s.paEn := rfl
@[simp] theorem State.raiseFault_lnaEn (e : ErrFlag) (f : ModelFault) : (s.raiseFault e f).lnaEn = s.lnaEn := rfl
@[simp] theorem State.raiseFault_rxIrqEn (e : ErrFlag) (f : ModelFault) : (s.raiseFault e f).rxIrqEn = s.rxIrqEn := rfl
@[simp] theorem State.raiseFault_tmrArmed (e : ErrFlag) (f : ModelFault) : (s.raiseFault e f).tmrArmed = s.tmrArmed := rfl
@[simp] theorem State.raiseFault_tmrCount (e : ErrFlag) (f : ModelFault) : (s.raiseFault e f).tmrCount = s.tmrCount := rfl
@[simp] theorem State.raiseFault_txbuf (e : ErrFlag) (f : ModelFault) : (s.raiseFault e f).txbuf = s.txbuf := rfl
@[simp] theorem State.raiseFault_hist (e : ErrFlag) (f : ModelFault) : (s.raiseFault e f).hist = s.hist := rfl
@[simp] theorem State.raiseFault_faults (e : ErrFlag) (f : ModelFault) : (s.raiseFault e f).faults = s.faults.add f := rfl

/-! ## countWaits -/

@[simp] theorem State.countWaits_cfg : s.countWaits.cfg = s.cfg := rfl
@[simp] theorem State.countWaits_script : s.countWaits.script = s.script := rfl
@[simp] theorem State.countWaits_hostProg : s.countWaits.hostProg = s.hostProg := rfl
@[simp] theorem State.countWaits_draws : s.countWaits.draws = s.draws := rfl
@[simp] theorem State.countWaits_resets : s.countWaits.resets = s.resets := rfl
@[simp] theorem State.countWaits_rst : s.countWaits.rst = s.rst := rfl
@[simp] theorem State.countWaits_rdata : s.countWaits.rdata = s.rdata := rfl
@[simp] theorem State.countWaits_busy : s.countWaits.busy = s.busy := rfl
@[simp] theorem State.countWaits_seq : s.countWaits.seq = s.seq := rfl
@[simp] theorem State.countWaits_bus : s.countWaits.bus = s.bus := rfl
@[simp] theorem State.countWaits_hold : s.countWaits.hold = s.hold - 1 := rfl
@[simp] theorem State.countWaits_busWait : s.countWaits.busWait = s.busWait - 1 := rfl
@[simp] theorem State.countWaits_freqQ : s.countWaits.freqQ = s.freqQ := rfl
@[simp] theorem State.countWaits_curOp : s.countWaits.curOp = s.curOp := rfl
@[simp] theorem State.countWaits_curMode : s.countWaits.curMode = s.curMode := rfl
@[simp] theorem State.countWaits_curLen : s.countWaits.curLen = s.curLen := rfl
@[simp] theorem State.countWaits_profL : s.countWaits.profL = s.profL := rfl
@[simp] theorem State.countWaits_freqL : s.countWaits.freqL = s.freqL := rfl
@[simp] theorem State.countWaits_tmrPeriodL : s.countWaits.tmrPeriodL = s.tmrPeriodL := rfl
@[simp] theorem State.countWaits_sysState : s.countWaits.sysState = s.sysState := rfl
@[simp] theorem State.countWaits_chipMode : s.countWaits.chipMode = s.chipMode := rfl
@[simp] theorem State.countWaits_radioState : s.countWaits.radioState = s.radioState := rfl
@[simp] theorem State.countWaits_cmd : s.countWaits.cmd = s.cmd := rfl
@[simp] theorem State.countWaits_profile : s.countWaits.profile = s.profile := rfl
@[simp] theorem State.countWaits_freq : s.countWaits.freq = s.freq := rfl
@[simp] theorem State.countWaits_err : s.countWaits.err = s.err := rfl
@[simp] theorem State.countWaits_bitIndex : s.countWaits.bitIndex = s.bitIndex := rfl
@[simp] theorem State.countWaits_bitTotal : s.countWaits.bitTotal = s.bitTotal := rfl
@[simp] theorem State.countWaits_offsetSel : s.countWaits.offsetSel = s.offsetSel := rfl
@[simp] theorem State.countWaits_modCount : s.countWaits.modCount = s.modCount := rfl
@[simp] theorem State.countWaits_freqReg : s.countWaits.freqReg = s.freqReg := rfl
@[simp] theorem State.countWaits_paEn : s.countWaits.paEn = s.paEn := rfl
@[simp] theorem State.countWaits_lnaEn : s.countWaits.lnaEn = s.lnaEn := rfl
@[simp] theorem State.countWaits_rxIrqEn : s.countWaits.rxIrqEn = s.rxIrqEn := rfl
@[simp] theorem State.countWaits_tmrArmed : s.countWaits.tmrArmed = s.tmrArmed := rfl
@[simp] theorem State.countWaits_tmrCount : s.countWaits.tmrCount = s.tmrCount := rfl
@[simp] theorem State.countWaits_txbuf : s.countWaits.txbuf = s.txbuf := rfl
@[simp] theorem State.countWaits_hist : s.countWaits.hist = s.hist := rfl
@[simp] theorem State.countWaits_faults : s.countWaits.faults = s.faults := rfl

end Sys2Proof.Machine
end

