-- ==== Sys2Proof/Laws/Ops.lean ====
section
/-! SUPPORT. One lemma per shared operation that says everything it can do. -/

namespace Sys2Proof.Machine

/-- In the untimed reading a transaction takes no time of its own (R275). -/
theorem busWaitAfter_untimed {s : State} (t : BusTxn) (h : s.cfg.reading = .untimed) : s.busWaitAfter t = s.busWait := by
  simp [State.busWaitAfter, h]

/-- In the timed reading it takes the port's time (R275). -/
theorem busWaitAfter_timed {s : State} (t : BusTxn) (h : s.cfg.reading = .timed) : s.busWaitAfter t = s.busTime t := by
  simp [State.busWaitAfter, h]

/-- With no transaction in flight, a transaction is issued and recorded. -/
theorem busIssue_free {t : BusTxn} {s : State} (h : s.bus = none) :
    busIssue t s = .next { s with hist := s.hist ++ [t.event], bus := some t, busWait := s.busWaitAfter t } := by
  simp [busIssue, h, State.record]

/-- A transaction is issued, or waits at the head of SEQ. -/
theorem busIssue_cases {t : BusTxn} {s s' : State} (h : busIssue t s = .next s') :
    (s.bus = none ∧ s' = { s with hist := s.hist ++ [t.event], bus := some t, busWait := s.busWaitAfter t }) ∨
    (s.bus ≠ none ∧ s' = s.before [.op t.instr]) := by
  cases hb : s.bus with
  | none => rw [busIssue_free hb] at h; cases h; exact .inl ⟨rfl, rfl⟩
  | some u => simp only [busIssue, hb, Option.isSome_some, if_true] at h; cases h; exact .inr ⟨by simp, rfl⟩

theorem execBusWrite_free {a : RadioAddr} {b : Byte} {bs : List Byte} {s : State} (h : s.bus = none) :
    execBusWrite a (b :: bs) s =
      .next { s with
        hist := s.hist ++ [.write a (b :: bs)]
        bus := some (.write a (b :: bs))
        busWait := s.busWaitAfter (.write a (b :: bs)) } := by
  simp [execBusWrite, busIssue_free h, BusTxn.event]

theorem execBusWrite_cases {a : RadioAddr} {bs : List Byte} {s s' : State} (h : execBusWrite a bs s = .next s') :
    (s.bus = none ∧ s' = { s with
      hist := s.hist ++ [.write a bs], bus := some (.write a bs), busWait := s.busWaitAfter (.write a bs) }) ∨
    (s.bus ≠ none ∧ s' = s.before [.op (.busWrite a bs)]) := by
  unfold execBusWrite at h
  split at h
  · cases h
  · exact busIssue_cases h

/-- A completion clears the transaction; an `err` raises and faults besides. -/
theorem busComplete_ok (s : State) : busComplete .ok s = { s with bus := none } := rfl

theorem busComplete_err (s : State) :
    busComplete .err s =
      { s with err := s.err ||| ErrFlag.busFault.bit, faults := s.faults.add .bus, bus := none } := rfl

/-- A presented command is dropped, refused or accepted. -/
theorem present_cases (i : Instr) (w : Word) (p : State → List Micro) (s : State) :
    (s.busy = true ∧ present i w p s = .next (s.raise .busyWrite)) ∨
    (s.busy = false ∧ admitted s.chipMode i = false ∧ present i w p s = .next (s.raise .mode)) ∨
    (s.busy = false ∧ admitted s.chipMode i = true ∧
      present i w p s = .next { s.latch w with seq := p (s.latch w) }) := by
  cases hb : s.busy <;> cases ha : admitted s.chipMode i <;> simp [present, hb, ha]

theorem present_accepted {i : Instr} {w : Word} {p : State → List Micro} {s : State} (hb : s.busy = false)
    (ha : admitted s.chipMode i = true) : present i w p s = .next { s.latch w with seq := p (s.latch w) } := by
  simp [present, hb, ha]

/-- A ramp performs its first write and leaves the rest at the head of SEQ. -/
theorem startRamp_free {b : Byte} {rest : List Byte} {s : State} (h : s.bus = none) :
    startRamp (b :: rest) s =
      .next { s with
        seq := .op (.delay s.rampDelay) :: rampBody s.cfg.addrPa s.rampDelay rest ++ s.seq
        hist := s.hist ++ [.write s.cfg.addrPa [b]]
        bus := some (.write s.cfg.addrPa [b])
        busWait := s.busWaitAfter (.write s.cfg.addrPa [b]) } := by
  rw [startRamp, execBusWrite_free (by simpa using h)]
  rfl

end Sys2Proof.Machine
end

