-- ==== Sys2Proof/Laws/PerInstr.lean ====
section
/-! SUPPORT. Statements about every instruction, one lemma per constructor. CommandWords: exactly the commands have a
command word (30_encoding.md R92, R97). -/

namespace Sys2Proof.Laws.CommandWords

def Statement (i : Instr) : Prop := (encode i).isSome = i.isCommand

theorem initChip (m : RadioMode) : Statement (.initChip m) := rfl
theorem closeChip : Statement .closeChip := rfl
theorem setFreq : Statement .setFreq := rfl
theorem send (len : Byte) : Statement (.send len) := rfl
theorem startCarrier : Statement .startCarrier := rfl
theorem stopCarrier : Statement .stopCarrier := rfl
theorem busStrobe (c : Byte) : Statement (.busStrobe c) := rfl
theorem busWrite (a : RadioAddr) (bs : List Byte) : Statement (.busWrite a bs) := rfl
theorem delay (d : DelayId) : Statement (.delay d) := rfl
theorem rampUp : Statement .rampUp := rfl
theorem rampDown : Statement .rampDown := rfl
theorem writeOffset (v : BitVec 16) : Statement (.writeOffset v) := rfl
theorem computeFreqReg (f : BitVec 32) : Statement (.computeFreqReg f) := rfl
theorem programFrequency (f : BitVec 32) : Statement (.programFrequency f) := rfl
theorem modulate : Statement .modulate := rfl
theorem carrierUp : Statement .carrierUp := rfl
theorem carrierDown : Statement .carrierDown := rfl
theorem timerStart : Statement .timerStart := rfl
theorem timerStop : Statement .timerStop := rfl
theorem tick : Statement .tick := rfl

end Sys2Proof.Laws.CommandWords
end

