-- ==== Sys2Proof/Laws/Step.lean ====
section
/-! SUPPORT. A step by its scheduled move, and runs over a schedule. -/

namespace Sys2Proof.Machine

theorem step_scheduled {s : State} {m : Move} {ms : List Move} (h : s.script = m :: ms) :
    step s = stepMove m { s with script := ms } := by
  simp [step, runNext, h]

/-- The sequencer's move is a micro-step of the next statement, or nothing. -/
theorem seqMove_next {s : State} {m : Micro} {rest : List Micro} (hf : s.sequencerFree = true)
    (h : s.seq = m :: rest) : seqMove s = microStep m { s with seq := rest } := by
  simp [seqMove, hf, h]

theorem seqMove_stutters {s : State} (hf : s.sequencerFree = false) : seqMove s = .next s := by
  simp [seqMove, hf]

theorem andThen_next {r : Result} {f : State → Result} {t : State} (h : andThen r f = .next t) :
    ∃ s, r = .next s ∧ f s = .next t := by
  cases r with
  | next s => exact ⟨s, rfl, h⟩
  | fault e => cases h
  | refused e => cases h

end Sys2Proof.Machine

namespace Sys2Proof.Safety

open Sys2Proof.Machine

@[simp] theorem run_zero (s : State) : run 0 s = .next s := rfl

theorem run_succ (n : Nat) (s : State) : run (n + 1) s = andThen (step s) (run n) := rfl

@[simp] theorem runScript_nil (s : State) : runScript [] s = .next { s with script := [] } := rfl

/-- A run over a schedule makes its first move and then runs over the rest. -/
theorem runScript_cons (m : Move) (ms : List Move) (s : State) :
    runScript (m :: ms) s = andThen (stepMove m { s with script := ms }) (run ms.length) := rfl

theorem nextMove_scheduled {s : State} {m : Move} {ms : List Move} (h : s.script = m :: ms) : nextMove s = m := by
  simp [nextMove, h]

theorem startsRun_reset : startsRun State.reset := rfl

theorem startsRun_blockReset (s : State) : startsRun s.blockReset := rfl

/-- A run starts with HIST and FAULTS empty (R262). -/
theorem startsRun_empty {s : State} (h : startsRun s) : s.hist = [] ∧ faultFree s := by rw [h]; exact ⟨rfl, rfl⟩

theorem runStep_unique {s t u : State} (h : runStep s t) (h' : runStep s u) : t = u := by
  have e := h.2.2.symm.trans h'.2.2
  injection e

/-- No step of the run asserts `rst`, and none goes on while it is asserted (R262). -/
theorem not_runStep {s : State} (h : s.rst = true ∨ nextMove s = .rst true) (t : State) : ¬ runStep s t
  | ⟨hr, hm, _⟩ => h.elim (fun e => absurd (hr.symm.trans e) Bool.false_ne_true) hm

end Sys2Proof.Safety
end

