-- ==== Sys2Proof/Tests/Slice0.lean ====
section
/-! SUPPORT. Tests: the checks of WellFormed, command words written out from R91 and R92, vectors of
95_test_vectors.md, and a witness for the hypotheses of every statement that has some. -/

namespace Sys2Proof.Tests

open Sys2Proof.Machine Sys2Proof.Safety

/-! ## WellFormed: an ill-formed term for each check -/

theorem test_busWrite_of_no_byte_is_ill_formed : (Instr.busWrite 0x002B#16 []).wellFormed = false := rfl
theorem test_busWrite_of_a_byte_is_well_formed : (Instr.busWrite 0x002B#16 [0x03#8]).wellFormed = true := rfl
theorem test_send_256_does_not_assemble : AsmStmt.assemble (.send 256) = none := by decide
theorem test_w16_offset_512_does_not_assemble : AsmStmt.assemble (.w16 512 0) = none := by decide
theorem test_w16_value_65536_does_not_assemble : AsmStmt.assemble (.w16 0 65536) = none := by decide
theorem test_w8_value_256_does_not_assemble : AsmStmt.assemble (.w8 256 256) = none := by decide
theorem test_r16_offset_512_does_not_assemble : AsmStmt.assemble (.r16 512) = none := by decide
theorem test_poll_mask_65536_does_not_assemble : AsmStmt.assemble (.poll 2 65536 0) = none := by decide
theorem test_setf_2_to_32_does_not_assemble : AsmStmt.assemble (.setf 4294967296) = none := by decide
theorem test_prof_2_does_not_assemble : AsmStmt.assemble (.prof 0 2 0) = none := by decide
theorem test_loadtx_of_nothing_does_not_assemble : AsmStmt.assemble (.loadtx []) = none := by decide
theorem test_loadtx_256_does_not_assemble : AsmStmt.assemble (.loadtx [256]) = none := by decide

/-! ## Decoding: words written out bit by bit, LEN, RSV, MODE, OP (R91, R92; L2.10) -/

theorem test_decode_initChip_tx : decodeTableWord 16 0b00000000_000_0_0001 = some (.initChip .tx) := by decide
theorem test_decode_initChip_rx : decodeTableWord 16 0b00000000_000_1_0001 = some (.initChip .rx) := by decide
theorem test_decode_closeChip : decodeTableWord 16 0b00000000_000_0_0010 = some .closeChip := by decide
theorem test_decode_setFreq : decodeTableWord 16 0b00000000_000_0_0011 = some .setFreq := by decide
theorem test_decode_send_165 : decodeTableWord 16 0b10100101_000_0_0100 = some (.send 0xA5#8) := by decide
theorem test_decode_startCarrier : decodeTableWord 16 0b00000000_000_0_0101 = some .startCarrier := by decide
theorem test_decode_stopCarrier : decodeTableWord 16 0b00000000_000_0_0110 = some .stopCarrier := by decide
theorem test_decode_illegal_words :
    [0x0000#16, 0x0007#16, 0x000F#16, 0x0012#16, 0x0103#16, 0x0014#16, 0x0024#16, 0x0021#16].all
      (fun w => !wellFormedWord w && (decodeTableWord 16 w.toNat).isNone) = true := by decide
theorem test_decode_one_byte_is_truncated : decodeBytes [0x01#8] = .error .truncated := rfl
theorem test_rows_do_not_overlap :
    cmdTable.Pairwise (fun r q => r.pattern &&& (r.mask &&& q.mask) ≠ q.pattern &&& (r.mask &&& q.mask)) := by decide
theorem test_parse_program : parseProgram ("SEND 0x10 ; x".toList ++ ['\n', '\n'] ++ " PROF 1, 0,1".toList) =
    some [.send 16, .prof 1 0 1] := by decide
theorem test_parse_refuses_init_chip_xx : parseProgram "INIT_CHIP XX".toList = none := by decide

/-! ## States -/

/-- Block reset on the profile EX. -/
def ex : State := { State.reset with cfg := Config.exampleEX }

/-- EX, ready to transmit. -/
def exTx : State := { ex with chipMode := .txReady, freq := 902200000#32 }

/-- EX with a command running that has these statements still to run. -/
def running (ms : List Micro) : State := { exTx with busy := true, seq := ms, sysState := .txProcessing }

/-- EX in the timed reading. -/
def timed (s : State) : State := { s with cfg := { s.cfg with reading := .timed } }

/-- EX with another neutral offset. -/
def neutral (v : BitVec 16) : State := { exTx with cfg := { exTx.cfg with offsetNeutral := Config.exampleEX.constProfile v } }

/-- The next state, or the same one. -/
def after (r : Result) (s : State) : State :=
  match r with
  | .next t => t
  | .fault _ | .refused _ => s

/-! ## Vectors -/

/-- L2.1 rows 8, 9, 14, 16, 18. -/
theorem test_freq_vectors :
    freqWord (freqInt Config.exampleEX false 0#16 2047999999#32) = 0xFFFFFF#24 ∧
    freqInRange (freqInt Config.exampleEX false 0#16 2048000000#32) = false ∧
    freqWord (freqInt Config.exampleEX false 0xFF9B#16 868130000#32) = 0x6C8441#24 ∧
    freqWord (freqInt Config.exampleEX false 4#16 0#32) = 0xFFFFFF#24 ∧
    freqWord (freqInt Config.exampleEX false 0x7FFF#16 868130000#32) = 0x6C6429#24 := by decide

/-- L2.1 row 4. -/
theorem test_freq_xtal40 : freqWord (freqInt Config.exampleEX true 0#16 902200000#32) = 0x5A3851#24 := by decide

/-- L2.1 row 12: the value is written and the flag set, and the fault is the next micro-step (R8). -/
theorem test_computeFreqReg_out_of_range :
    let t := after (exec (.computeFreqReg 4294967295#32) { exTx with profL := 1#3 }) ex
    t.freqQ = 0xAD7F29#24 ∧ t.err = 0x0008#16 ∧ t.seq = [.recordFault .freqRange] := by decide

/-- L2.3: −100 is written high byte first. -/
theorem test_writeOffset_high_first :
    (after (exec (.writeOffset 0xFF9C#16) exTx) ex).hist = [.write 0x2F0A#16 [0xFF#8, 0x9C#8]] := by decide

/-- L2.4: where each ramp starts. -/
theorem test_ramps_start_at_opposite_ends :
    (after (exec .rampUp exTx) ex).hist = [.write 0x002B#16 [0x03#8]] ∧
    (after (exec .rampDown exTx) ex).hist = [.write 0x002B#16 [0x3F#8]] := by decide

/-- L2.5: a pulse starts by ramping down. -/
theorem test_modulate_starts_down : (after (exec .modulate exTx) ex).hist = [.write 0x002B#16 [0x3F#8]] := by decide

/-- R133: outside TX_MODE the first micro-step is the fault. -/
theorem test_modulate_in_rx_mode_faults_first :
    let t := after (exec .modulate { exTx with radioState := .rx }) ex
    t.faults = { FaultSet.empty with internal := true } ∧ t.hist = [] := by decide

/-- L2.6. -/
theorem test_carrierUp_strobes_first :
    (after (exec .carrierUp exTx) ex).hist = [.strobe 0x35#8] ∧
    (after (exec .carrierUp { exTx with cfg := { exTx.cfg with carrierStrobes := false } }) ex).hist =
      [.write 0x002B#16 [0x03#8]] := by decide
theorem test_carrierDown_ramps_first : (after (exec .carrierDown exTx) ex).hist = [.write 0x002B#16 [0x3F#8]] := by decide

/-- R131: the neutral pair first. -/
theorem test_programFrequency_starts_neutral :
    (after (exec (.programFrequency 0#32) exTx) ex).hist = [.write 0x2F0A#16 [0x00#8, 0x00#8]] := by decide

/-- L2.12: the preload of region ETSI100, and the three writes in order. -/
theorem test_timerStart_latches_the_period :
    (after (exec .timerStart { exTx with profL := 2#3 }) ex).tmrPeriodL = 6000#16 := by decide
theorem test_timerStop_disarms_first :
    (after (exec .timerStop { exTx with tmrArmed := true, tmrCount := 7#16 }) ex).tmrArmed = false := by decide

/-- L2.12: TxEnd under GATED and under LITERAL. -/
theorem test_tick_in_txEnd :
    (after (exec .tick { exTx with sysState := .txEnd }) ex).sysState = .txEnd ∧
    (after (exec .tick { exTx with sysState := .txEnd, cfg := { exTx.cfg with tickGating := .literal } }) ex).sysState =
      .txProcessing := by decide
theorem test_tick_in_txWaiting_is_recorded :
    (after (exec .tick { exTx with sysState := .txWaiting }) ex).hist = [.tick] := by decide

/-- L2.12: right after the first tick. -/
theorem test_edge_reloads_period_less_one :
    (after (clockEdge (timed { exTx with tmrArmed := true, tmrPeriodL := 1000#16 })) ex).tmrCount = 999#16 := by decide

/-- L2.12: TMR_COUNT is TICK_SEED after the cycle in which TIMER_START arms, and the next cycle counts. -/
theorem test_arming_cycle_does_not_count :
    let s := timed { running [.setArmed, .dispatch] with tmrCount := 50#16 }
    (after (cycleMove false true s) ex).tmrCount = 50#16 ∧
    (after (cycleMove false false (after (cycleMove false true s) ex)) ex).tmrCount = 49#16 := by decide

theorem test_delay_records : (after (exec (.delay .phaseHold) exTx) ex).hist = [.delay .phaseHold] := by decide
theorem test_delay_holds_in_the_timed_reading : (after (exec (.delay .phaseHold) (timed exTx)) ex).hold = 4 := by decide
theorem test_busStrobe_err_sets_flag_and_fault :
    let t := busComplete .err (after (exec (.busStrobe 0x36#8) exTx) ex)
    t.err = 0x0020#16 ∧ t.faults = { FaultSet.empty with bus := true } ∧ t.bus = none ∧ t.hist = [.strobe 0x36#8] := by
  decide
/-- 92_eei_decisions.md D44: in the timed reading a write takes the port's time. -/
theorem test_timed_write_takes_its_time :
    let t := after (exec (.busWrite 0x002B#16 [0x03#8]) (timed exTx)) ex
    (after (busMove .ok t) ex).bus = some (.write 0x002B#16 [0x03#8]) ∧
    (after (busMove .ok t.countWaits.countWaits) ex).bus = none := by decide
theorem test_busWrite_is_in_flight :
    (after (exec (.busWrite 0x002B#16 [0x03#8]) exTx) ex).bus = some (.write 0x002B#16 [0x03#8]) := by decide

/-- L2.10: admission. -/
theorem test_send_in_uninit_raises_mode :
    (after (exec (.send 1#8) ex) exTx).err = 0x0002#16 ∧ (after (exec (.send 1#8) ex) exTx).cmd = 0#16 := by decide
theorem test_send_latches_the_length : (after (exec (.send 255#8) exTx) ex).curLen = 255#8 := by decide
theorem test_setFreq_in_idle_raises_mode :
    (after (exec .setFreq { exTx with chipMode := .idle }) ex).err = 0x0002#16 := by decide
theorem test_startCarrier_in_rxReady_raises_mode :
    (after (exec .startCarrier { exTx with chipMode := .rxReady }) ex).err = 0x0002#16 := by decide
theorem test_stopCarrier_latches_its_word : (after (exec .stopCarrier exTx) ex).cmd = 0x0006#16 := by decide
theorem test_initChip_runs_in_uninit : (after (exec (.initChip .rx) ex) exTx).busy = true := by decide
theorem test_closeChip_runs_in_uninit : (after (exec .closeChip ex) exTx).cmd = 0x0002#16 := by decide
theorem test_busy_write_raises_only_busy_write :
    (after (memWrite 0x000#9 .w16 0x0000#16 (running [.clearBusy])) ex).err = 0x0004#16 := by decide

/-- A step runs a command after reset (R90). -/
theorem test_step_runs_initChip_after_reset :
    ∃ t, step (State.reset.withFetchWord 16 0x0001) = .next t ∧ t.busy = true ∧ t.cmd = 0x0001#16 :=
  ⟨_, rfl, rfl, rfl⟩
theorem test_step_refuses_setFreq_after_reset :
    ∃ t, step (State.reset.withFetchWord 16 0x0003) = .next t ∧ t.busy = false ∧ t.err = 0x0002#16 :=
  ⟨_, rfl, rfl, rfl⟩

/-- L2.11. -/
theorem test_w8_to_cmd_is_an_access_error :
    (after (memWrite 0x000#9 .w8 0x0001#16 exTx) ex).err = 0x0040#16 := by decide
theorem test_r16_at_odd_offset : (memRead 0x101#9 .w16 exTx).err = 0x0040#16 := by decide
theorem test_w16_at_1FE_drops_the_reserved_byte :
    (after (memWrite 0x1FE#9 .w16 0x1234#16 exTx) ex).txbuf = [(254, 0x34#8)] ∧
    (memRead 0x1FE#9 .w16 (after (memWrite 0x1FE#9 .w16 0x1234#16 exTx) ex)).rdata = 0x0034#16 := by decide
theorem test_w16_is_little_endian :
    (after (memWrite 0x100#9 .w16 0xBBAA#16 exTx) ex).txbuf = [(0, 0xAA#8), (1, 0xBB#8)] := by decide
theorem test_err_is_write_one_to_clear :
    (after (memWrite 0x004#9 .w16 0x0021#16 { exTx with err := 0x0023#16 }) ex).err = 0x0002#16 ∧
    (after (memWrite 0x004#9 .w16 0x0001#16 { exTx with err := 0x0023#16, busy := true }) ex).err = 0x0022#16 := by
  decide
theorem test_profile_keeps_three_bits :
    (after (memWrite 0x006#9 .w16 0xFFFF#16 exTx) ex).profile = 0x0007#16 := by decide
theorem test_freq_reads_in_two_halves :
    (memRead 0x008#9 .w16 exTx).rdata = 0x7AC0#16 ∧ (memRead 0x00A#9 .w16 exTx).rdata = 0x35C6#16 := by decide

/-- P2: STATUS at the end of a SEND. -/
theorem test_status_after_send : { exTx with sysState := .txEnd }.statusWord = 0x0018#16 := by decide

/-- L2.13: the first 0 of 0xA5 is bit 1, and a 1 issues nothing. -/
theorem test_cursor_is_msb_first :
    (List.range 8).map (fun i => bitOfByte 0xA5#8 (BitVec.ofNat 11 i)) =
      [true, false, true, false, false, true, false, true] := by decide

/-- R8, L2.13 (last row): the read of an unwritten byte is a micro-step of its own, and the body goes on after it. -/
theorem test_unwritten_byte_faults_first :
    ∃ t, step { running [.processBit] with bitTotal := 8#11, script := [.seq] } = .next t ∧
      t.faults = { FaultSet.empty with unwritten := true } ∧ t.bitIndex = 0#11 ∧ t.hist = [] :=
  ⟨_, rfl, rfl, rfl, rfl⟩

/-- R195: the raise, then the fault, then TxEnd. -/
theorem test_overrun_raises_first :
    let t := after (processBitStep (running [])) ex
    t.err = 0x0080#16 ∧ t.faults = FaultSet.empty ∧ t.seq = [.recordFault .cursorOverrun, .setSysState .txEnd, .dispatch] := by
  decide

/-- R235: ERR is at the base address and 4, and the address below the base is not the block's. -/
theorem test_addresses_start_at_the_base :
    (addressRead (0x0400 + 4) .w16 { exTx with err := 0x0023#16 }).rdata = 0x0023#16 ∧
    windowOffset exTx.cfg (0x0400 - 1) = none ∧ windowOffset exTx.cfg (0x0400 + 512) = none := by decide

/-! ## Witnesses: the hypotheses of each statement are met -/

theorem witness_DecodeOfEncodeIsTheInstruction :
    (Instr.send 255#8).wellFormed = true ∧ encode (.send 255#8) = some 0xFF04#16 ∧
    (Instr.initChip .rx).wellFormed = true ∧ encode (.initChip .rx) = some 0x0011#16 := by decide
theorem witness_EncodeOfDecodeIsTheWord :
    decodeWord 0xFF04#16 = .ok (.send 255#8) ∧ decodeWord 0x0011#16 = .ok (.initChip .rx) := ⟨rfl, rfl⟩

/-- Each ground of illegality at its boundary values. -/
theorem witness_WordsAreLegalExactlyAsTheRowsSay :
    ∀ w ∈ [0x0000#16, 0x0007#16, 0x000F#16, 0x0012#16, 0x0021#16, 0x0081#16, 0x0101#16, 0xFF06#16], ∀ i,
      decodeWord w ≠ .ok i := by
  intro w hw i h
  simp only [List.mem_cons, List.not_mem_nil, or_false] at hw
  rcases hw with rfl | rfl | rfl | rfl | rfl | rfl | rfl | rfl <;> cases h

theorem witness_StepRunsThePresentedCommand :
    exTx.rst = false ∧ exTx.busy = false ∧ decodeWord 0x0104#16 = .ok (.send 1#8) := ⟨rfl, rfl, rfl⟩
theorem witness_StepRunsTheNextMicroOperation :
    let s := { running [.op .rampUp, .clearBusy] with script := [.seq] }
    s.rst = false ∧ s.script = .seq :: [] ∧ s.sequencerFree = true ∧ s.seq = .op .rampUp :: [.clearBusy] :=
  ⟨rfl, rfl, rfl, rfl⟩

theorem witness_CommandWriteIsRefusedOrAccepted :
    exTx.busy = false ∧ (∀ i, decodeWord 0x0000#16 ≠ .ok i) ∧ decodeWord 0x0104#16 = .ok (.send 1#8) ∧
    admitted exTx.chipMode (.send 1#8) = true ∧ ex.busy = false ∧ admitted ex.chipMode (.send 1#8) = false :=
  ⟨rfl, (fun _ h => by cases h), rfl, rfl, rfl, rfl⟩

/-- INIT_CHIP, SET_FREQ and SEND, admitted and not. -/
theorem witness_CommandsAreAdmittedByChipMode :
    ex.busy = false ∧ (Instr.initChip .tx).isCommand = true ∧ Instr.setFreq.isCommand = true ∧
    (Instr.send 0#8).isCommand = true ∧ exTx.chipMode = .txReady ∧
    ¬ (ex.chipMode = .txReady ∨ ex.chipMode = .rxReady) ∧ ¬ { ex with chipMode := .rxReady }.chipMode = .txReady := by
  decide

theorem witness_BusStrobeIssuesThenCompletes :
    let t := { exTx with bus := some (.strobe 0x36#8) }
    exTx.bus = none ∧ exTx.cfg.reading = .untimed ∧ (timed exTx).cfg.reading = .timed ∧
    t.rst = false ∧ t.bus = some (.strobe 0x36#8) ∧ t.busWait = 0 ∧ { t with busWait := 1 }.busWait ≠ 0 ∧
    { t with script := [.seq] }.script = .seq :: [] ∧ { t with script := [.bus .err] }.script = .bus .err :: [] := by
  decide
theorem witness_BusWriteIssuesThenCompletes :
    let t := { exTx with bus := some (.write 0x002B#16 [0x03#8]) }
    exTx.bus = none ∧ [0x03#8] ≠ [] ∧ exTx.cfg.reading = .untimed ∧ (timed exTx).cfg.reading = .timed ∧
    t.rst = false ∧ t.bus = some (.write 0x002B#16 [0x03#8]) ∧ t.busWait = 0 ∧ { t with busWait := 1 }.busWait ≠ 0 ∧
    { t with script := [.seq] }.script = .seq :: [] ∧ { t with script := [.bus .ok] }.script = .bus .ok :: [] := by
  decide
theorem witness_OneTransactionAtATime :
    let s := { running [.clearBusy] with bus := some (.strobe 0x36#8), script := [.seq] }
    s.bus ≠ none ∧ [0x03#8] ≠ [] ∧ s.script = .seq :: [] := ⟨by decide, by decide, rfl⟩
theorem witness_DelayRecordsAndHolds :
    exTx.cfg.reading = .untimed ∧ (timed exTx).cfg.reading = .timed ∧
    { timed exTx with hold := 1, script := [.seq] }.hold ≠ 0 := by decide

/-- `calm`, BUSY = 1 and a ramp table: the ramps, MODULATE, the carrier, ProgramFrequency and the timer. -/
theorem witness_running_states_are_calm :
    calm (running [.clearBusy]) ∧ (running [.clearBusy]).busy = true ∧ (running [.clearBusy]).rampTable ≠ [] := by decide

/-- The names the statements have, each met by the state above. -/
theorem witness_RampsWalkOneTableInOppositeOrders :
    ∃ s : State, calm s ∧ s.busy = true ∧ s.rampTable ≠ [] := ⟨_, witness_running_states_are_calm⟩
theorem witness_ProgramFrequencyWritesLsbFirst : ∃ s : State, calm s ∧ s.busy = true :=
  ⟨running [.clearBusy], by decide⟩
theorem witness_ModulateIsOnePulse :
    ∃ s u : State, (calm s ∧ s.busy = true ∧ s.rampTable ≠ [] ∧ s.radioState = .tx) ∧
      calm u ∧ u.busy = true ∧ u.rampTable ≠ [] ∧ u.radioState = .rx :=
  ⟨running [.clearBusy], { running [.clearBusy] with radioState := .rx }, by decide⟩
theorem witness_CarrierUpStrobesThenRamps : ∃ s : State, calm s ∧ s.busy = true ∧ s.rampTable ≠ [] :=
  ⟨_, witness_running_states_are_calm⟩
theorem witness_CarrierDownRampsThenStrobes : ∃ s : State, calm s ∧ s.busy = true ∧ s.rampTable ≠ [] :=
  ⟨_, witness_running_states_are_calm⟩
theorem witness_TimerStartArmsAndTimerStopDisarms : ∃ s : State, calm s ∧ s.busy = true :=
  ⟨running [.clearBusy], by decide⟩

theorem witness_WriteOffsetIsOneBurst :
    exTx.bus = none ∧ exTx.cfg.reading = .untimed ∧ (timed exTx).cfg.reading = .timed := by decide

/-- q at 0, at 2^24 - 1, at 2^24 and at -1, and under an opaque FREQ_ARITH (L2.1 rows 6, 8, 9, 16). -/
theorem witness_ComputeFreqRegTruncatesTowardZero :
    exTx.freqInt 0#32 = 0 ∧ exTx.freqInt 2047999999#32 = 16777215 ∧ exTx.freqInt 2048000000#32 = 16777216 ∧
    (neutral 4#16).freqInt 0#32 = -1 ∧
    (let s := { running [.recordFault .freqRange, .clearBusy] with script := [.seq] }
     s.rst = false ∧ s.script = .seq :: [] ∧ s.sequencerFree = true ∧
      s.seq = .recordFault .freqRange :: [.clearBusy]) := by decide
theorem witness_FrequencyRoundTripIsWithinTheStatedBound :
    Config.exampleEX.wf ∧ Config.exampleEX.freqArith = .exact := by decide

theorem witness_TickIsConsumedOnlyInTxWaiting :
    { exTx with sysState := .txWaiting }.sysState = .txWaiting ∧
    (exTx.sysState ≠ .txWaiting ∧ exTx.cfg.tickGating = .gated) ∧
    (let l := { exTx with cfg := { exTx.cfg with tickGating := .literal } }
     l.sysState ≠ .txWaiting ∧ l.cfg.tickGating = .literal) := by decide

/-- Disarmed; armed with the counter at 1; armed with the counter at 0. -/
theorem witness_ClockEdgeCountsDownAndReloads :
    let s := timed { exTx with script := [.tclk] }
    (s.rst = false ∧ s.cfg.reading = .timed ∧ s.script = .tclk :: [] ∧ s.tmrArmed = false) ∧
    { s with tmrArmed := true, tmrCount := 1#16 }.tmrCount ≠ 0#16 ∧
    { s with tmrArmed := true, tmrCount := 0#16 }.tmrCount = 0#16 := by decide
theorem witness_UntimedTimerTicksOnlyWhileArmed :
    let s := { exTx with script := [.tick], tmrArmed := true }
    (s.rst = false ∧ s.cfg.reading = .untimed ∧ s.script = .tick :: [] ∧ s.tmrArmed = true) ∧
    { s with tmrArmed := false }.tmrArmed = false ∧ { s with script := [.tclk] }.script = .tclk :: [] := by decide

theorem witness_SameCycleEventsAreOrdered_clause_1 :
    let s := timed { running [.op (.computeFreqReg 2048000000#32)] with
      script := [.cycle true true], hostProg := [.w16 0x004#9 0x0008#16] }
    s.rst = false ∧ s.cfg.reading = .timed ∧ s.sequencerFree = true ∧ s.script = .cycle true true :: [] ∧
    s.hostProg = .w16 0x004#9 0x0008#16 :: [] ∧ s.seq = .op (.computeFreqReg 2048000000#32) :: [] ∧
    freqInRange (s.freqInt 2048000000#32) = false := by decide
theorem witness_SameCycleEventsAreOrdered_cursorOverrun :
    let s := timed { running [.processBit] with script := [.cycle true true], hostProg := [.w16 0x004#9 0x0080#16] }
    s.rst = false ∧ s.cfg.reading = .timed ∧ s.sequencerFree = true ∧ s.script = .cycle true true :: [] ∧
    s.hostProg = .w16 0x004#9 0x0080#16 :: [] ∧ s.seq = .processBit :: [] ∧ s.bitTotal ≤ s.bitIndex := by decide
theorem witness_SameCycleEventsAreOrdered_tickAbsorbed :
    let s := timed { running [.clearBusy] with
      script := [.cycle true false], hostProg := [.w16 0x004#9 0x0010#16], tmrArmed := true }
    s.rst = false ∧ s.cfg.reading = .timed ∧ s.sequencerFree = true ∧ s.script = .cycle true false :: [] ∧
    s.hostProg = .w16 0x004#9 0x0010#16 :: [] ∧ s.tmrArmed = true ∧ s.tmrCount = 0#16 ∧ s.sysState ≠ .txWaiting := by
  decide
theorem witness_SameCycleEventsAreOrdered_arming :
    let s := timed { running [.setArmed, .dispatch] with script := [.cycle false true], tmrCount := 50#16 }
    s.rst = false ∧ s.cfg.reading = .timed ∧ s.sequencerFree = true ∧ s.script = .cycle false true :: [] ∧
    s.seq = .setArmed :: [.dispatch] ∧ s.tmrArmed = false := by decide
theorem witness_SameCycleEventsAreOrdered_clause_2 :
    let s := timed { running [.clearBusy] with script := [.cycle true true], hostProg := [.w16 0x000#9 0x0001#16] }
    s.rst = false ∧ s.cfg.reading = .timed ∧ s.sequencerFree = true ∧ s.script = .cycle true true :: [] ∧
    s.hostProg = .w16 0x000#9 0x0001#16 :: [] ∧ s.seq = .clearBusy :: [] := by decide
theorem witness_SameCycleEventsAreOrdered_clause_3 :
    let s := timed { running [.op .timerStop, .clearBusy] with script := [.cycle false true], tmrArmed := true }
    s.rst = false ∧ s.cfg.reading = .timed ∧ s.sequencerFree = true ∧ s.script = .cycle false true :: [] ∧
    s.seq = .op .timerStop :: [.clearBusy] ∧ s.tmrArmed = true ∧ s.tmrCount = 0#16 := by decide
theorem witness_SameCycleEventsAreOrdered_clause_4 :
    let s := timed { running [.leaveTxProcessing, .dispatch] with
      script := [.cycle false true], tmrArmed := true, bitIndex := 1#11, bitTotal := 8#11 }
    s.rst = false ∧ s.cfg.reading = .timed ∧ s.sequencerFree = true ∧ s.script = .cycle false true :: [] ∧
    s.seq = .leaveTxProcessing :: [.dispatch] ∧ s.bitIndex ≠ s.bitTotal ∧ s.tmrArmed = true ∧ s.tmrCount = 0#16 := by
  decide

/-- A timed micro-step, an edge that ticks, a completion, a host access, a whole cycle and a reset. -/
theorem witness_TimedStepsAreUntimedSteps :
    let h := timed { running [.op (.delay .phaseHold), .clearBusy] with tmrArmed := true, hostProg := [.r16 0x002#9] }
    (timed exTx).cfg.reading = .timed ∧ readsTmrCount h.nextStmt = false ∧
    (∃ t, stepMove .seq h = .next t) ∧ (∃ t, stepMove .tclk h = .next t) ∧
    (∃ t, stepMove (.bus .err) (timed { exTx with bus := some (.strobe 0x36#8) }) = .next t) ∧
    (∃ t, stepMove .host h = .next t) ∧ (∃ t, stepMove (.cycle true true) h = .next t) ∧
    ∃ t, stepMove (.rst true) h = .next t :=
  ⟨rfl, rfl, ⟨_, rfl⟩, ⟨_, rfl⟩, ⟨_, rfl⟩, ⟨_, rfl⟩, ⟨_, rfl⟩, ⟨_, rfl⟩⟩

theorem witness_InitChipRunsToItsEnd : calm ex ∧ ex.busy = false := by decide
theorem witness_CloseChipRunsToItsEnd : calm ex ∧ ex.busy = false := by decide
theorem witness_SetFreqRunsToItsEnd :
    calm exTx ∧ exTx.busy = false ∧ exTx.chipMode = .txReady ∧
    { exTx with chipMode := .rxReady }.chipMode = .rxReady := by decide
theorem witness_StartCarrierRunsToItsEnd :
    calm exTx ∧ exTx.busy = false ∧ exTx.chipMode = .txReady ∧ (exTx.latch 0x0005#16).rampTable ≠ [] := by decide
theorem witness_StopCarrierRunsToItsEnd :
    calm exTx ∧ exTx.busy = false ∧ exTx.chipMode = .txReady ∧ (exTx.latch 0x0006#16).rampTable ≠ [] := by decide
theorem witness_SendOfLengthZeroRunsToItsEnd :
    calm exTx ∧ exTx.busy = false ∧ exTx.chipMode = .txReady ∧ (exTx.latch 0x0004#16).rampTable ≠ [] := by decide

/-- `SendLaunch(1, [0xA5], 0)`. -/
theorem witness_SendCompletesUnderSomeSchedule :
    let s := { exTx with txbuf := [(0, 0xA5#8)] }
    calm s ∧ sendLaunch 1#8 [0xA5#8] false s ∧ s.cfg.tickGating = .gated ∧ (s.latch 0x0104#16).rampTable ≠ [] := by
  refine ⟨by decide, ⟨rfl, rfl, rfl, rfl, rfl, rfl, rfl, ?_, rfl⟩, rfl, by decide⟩
  intro k hk
  obtain rfl : k = 0 := by simpa using hk
  rfl

/-- The shortest SEND, of length 0, run to its end in 26 micro-steps under EX. -/
theorem witness_SendIsTheSameUnderEverySchedule :
    calm exTx ∧ sendLaunch 0#8 [] false exTx ∧ exTx.cfg.tickGating = .gated ∧ (exTx.latch 0x0004#16).rampTable ≠ [] ∧
    ∃ t u, exec (.send 0#8) exTx = .next t ∧ (okSchedule 26).all plainMove = true ∧
      runScript (okSchedule 26) t = .next u ∧ u.busy = false :=
  ⟨by decide, ⟨rfl, rfl, rfl, rfl, rfl, rfl, rfl, fun _ h => absurd h (Nat.not_lt_zero _), rfl⟩, rfl, by decide,
    _, _, rfl, rfl, rfl, rfl⟩

/-- A byte that holds a value, the first and the last bit; and one that holds none. -/
theorem witness_CursorBitIsMsbFirst :
    let s := { exTx with txbuf := [(0, 0xA5#8), (254, 0x34#8)] }
    { s with bitIndex := 0#11 }.txbuf.read (0 / 8) = some 0xA5#8 ∧
    { s with bitIndex := 2039#11 }.txbuf.read (2039 / 8) = some 0x34#8 ∧
    { s with bitIndex := 8#11 }.txbuf.read (8 / 8) = none := by decide

/-- A 1 bit and a 0 bit, the last of the buffer. -/
theorem witness_EachBitAdvancesTheCursor :
    let s := { running [.processBit] with bitIndex := 7#11, bitTotal := 8#11, txbuf := [(0, 0xFF#8)] }
    let z := { s with txbuf := [(0, 0xFE#8)] }
    (calm s ∧ s.busy = true ∧ s.rampTable ≠ [] ∧ s.radioState = .tx ∧ s.seq = [.processBit] ∧ s.bitIndex < s.bitTotal ∧
      s.txbuf.read (s.bitIndex.toNat / 8) = some 0xFF#8) ∧
    (calm z ∧ z.busy = true ∧ z.rampTable ≠ [] ∧ z.radioState = .tx ∧ z.seq = [.processBit] ∧ z.bitIndex < z.bitTotal ∧
      z.txbuf.read (z.bitIndex.toNat / 8) = some 0xFE#8) := by decide
theorem witness_OverrunGoesToTxEnd :
    let s := { running [.processBit] with bitIndex := 8#11, bitTotal := 8#11 }
    calm s ∧ s.busy = true ∧ s.seq = .processBit :: [] ∧ s.bitTotal ≤ s.bitIndex := by decide

/-- One state for each value of SYS_STATE. -/
theorem witness_DispatchFollowsSysState :
    ∀ v ∈ [SysState.idle, .txStart, .txWaiting, .txProcessing, .txEnd],
      let s := { running [.dispatch] with sysState := v, script := [.seq] }
      s.rst = false ∧ s.script = .seq :: [] ∧ s.sequencerFree = true ∧ s.seq = .dispatch :: [] ∧ s.sysState = v := by
  decide
theorem witness_OnlyATickEndsTxWaiting :
    let s := { running [.dispatch] with sysState := .txWaiting, tmrArmed := true }
    s.rst = false ∧ s.cfg.reading = .untimed ∧ s.busy = true ∧ s.bus = none ∧ s.seq = [.dispatch] ∧ s.tmrArmed = true ∧
    s.sysState = .txWaiting ∧ ∀ m ∈ [Move.seq, .host, .bus .err], m ≠ .tick ∧ ∀ b, m ≠ .rst b := by decide

theorem witness_StatusShowsEveryField : exTx.busy = false := rfl

/-- 8 bits at 0x0FF and 0x100, 16 bits at 0x000, 0x001, 0x1FE and 0x1FF; a legal write that answers. -/
theorem witness_IllegalAccessIsRefused :
    (0x0FF#9).toNat < 0x100 ∧ 0x100 ≤ (0x100#9).toNat ∧ (0x001#9).toNat % 2 = 1 ∧ (0x1FF#9).toNat % 2 = 1 ∧
    (0x000#9).toNat % 2 = 0 ∧ (0x1FE#9).toNat % 2 = 0 ∧
    ∃ t, memWrite 0x006#9 .w16 0#16 { exTx with err := 0x0040#16 } = .next t ∧ t.err.getLsbD 6 = true :=
  ⟨by decide, by decide, by decide, by decide, by decide, by decide, _, rfl, rfl⟩
/-- 8 bits at 0x100 and 0x1FF, 16 bits at 0x000, ERR and 0x1FE. -/
theorem witness_BusyWriteIsDroppedAndErrIsWriteOneToClear :
    (running [.clearBusy]).busy = true ∧ 0x100 ≤ (0x100#9).toNat ∧ 0x100 ≤ (0x1FF#9).toNat ∧ (0x000#9).toNat % 2 = 0 ∧
    (0x004#9).toNat % 2 = 0 ∧ (0x1FE#9).toNat % 2 = 0 ∧ (0x1FE#9) ≠ 0x004#9 := by decide
theorem witness_ReservedAndReadOnlyLocations :
    exTx.busy = false ∧ 0x01A ≤ (0x01A#9).toNat ∧ (0x0FE#9).toNat < 0x100 ∧ (0x0FE#9).toNat % 2 = 0 ∧ formInv exTx :=
  ⟨rfl, by decide, by decide, by decide, Memory.wf_nil, by decide, by decide⟩
theorem witness_HostWindowIsLittleEndian : exTx.busy = false ∧ 0 ≤ 126 ∧ 126 ≤ 126 ∧ 254 ≤ 254 := by decide

/-- Below the window, at its ends, and above it. -/
theorem witness_HostAddressesAreRelativeToTheBase :
    0x03FF < exTx.cfg.dmcsBase ∧ exTx.cfg.dmcsBase + (0x1FF#9).toNat = 0x05FF ∧ exTx.cfg.dmcsBase + 512 ≤ 0x0600 := by
  decide

/-- A condition that holds at once (WAITIDLE at rest), and one that does not yet. -/
theorem witness_PollRepeatsUntilItsCondition :
    let p : HostStmt := .poll 0x002#9 0x0001#16 0x0000#16
    let s := { exTx with script := [.host], hostProg := [p] }
    s.rst = false ∧ s.script = .host :: [] ∧ s.hostProg = p :: [] ∧
    (memRead 0x002#9 .w16 s).rdata &&& 0x0001#16 = 0x0000#16 ∧
    (memRead 0x002#9 .w16 { s with busy := true }).rdata &&& 0x0001#16 ≠ 0x0000#16 := by decide
theorem witness_ProgramLinesAssembleToAccesses :
    255 < 256 ∧ 256 ≤ 256 ∧ List.replicate 255 0xA5#8 ≠ [] ∧ (List.replicate 255 0xA5#8).length ≤ 255 :=
  ⟨by decide, by decide, List.cons_ne_nil _ (List.replicate 254 _), Nat.le_of_eq List.length_replicate⟩

theorem witness_BlockResetAbandonsEverything :
    let s := { running [.clearBusy] with script := [.rst true], bus := some (.strobe 0x36#8) }
    s.script = .rst true :: [] ∧
    { s with rst := true, script := [.rst false] }.rst = true ∧
    { s with rst := true, script := [.seq] }.rst = true ∧ ∀ b, Move.seq ≠ .rst b := by decide

/-- R262, R279: a fault that a block reset clears refutes all the same, of the run that the reset ends. -/
theorem test_fault_before_a_block_reset_refutes :
    refutes { State.reset with script := [.host, .rst true], hostProg := [.r8 0x100#9] } :=
  .inl ⟨_, .step (.start rfl) ⟨rfl, by simp [nextMove], rfl⟩, .inr (.inl rfl), by decide⟩

/-- The four invariants hold of a state in the middle of a SEND, from which a step answers a next state. -/
theorem witness_the_invariants_and_a_step :
    let s := { running [.incBitIndex, .leaveTxProcessing, .dispatch] with
      bitIndex := 7#11, bitTotal := 8#11, txbuf := [(0, 0xFE#8)], script := [.seq] }
    formInv s ∧ seqInv s ∧ cursorInv s ∧ modeInv s ∧ ∃ t, step s = .next t :=
  ⟨⟨⟨by simp, by simp⟩, by decide, by decide⟩, ⟨_, rfl, rfl⟩,
    ⟨fun h => absurd h (by decide), by decide, (by decide : 7#11 < 8#11)⟩,
    ⟨fun h => absurd h (by decide), ⟨fun _ => rfl, fun h => by cases h⟩, fun _ => ⟨rfl, rfl⟩, by decide⟩, _, rfl⟩
theorem witness_EveryStepKeepsTheForms : ∃ s t : State, formInv s ∧ step s = .next t :=
  have ⟨h, _, _, _, t, e⟩ := witness_the_invariants_and_a_step
  ⟨_, t, h, e⟩
theorem witness_EveryStepKeepsBusyAndSeqTogether : ∃ s t : State, seqInv s ∧ step s = .next t :=
  have ⟨_, h, _, _, t, e⟩ := witness_the_invariants_and_a_step
  ⟨_, t, h, e⟩
theorem witness_EveryStepKeepsTheCursorInRange : ∃ s t : State, cursorInv s ∧ step s = .next t :=
  have ⟨_, _, h, _, t, e⟩ := witness_the_invariants_and_a_step
  ⟨_, t, h, e⟩
theorem witness_ModulateNeverRunsOutsideTxMode : ∃ s t : State, modeInv s ∧ step s = .next t :=
  have ⟨_, _, _, h, t, e⟩ := witness_the_invariants_and_a_step
  ⟨_, t, h, e⟩
theorem witness_ParametersNeverChange : ∃ s t : State, step s = .next t :=
  have ⟨_, _, _, _, t, e⟩ := witness_the_invariants_and_a_step
  ⟨_, t, e⟩

/-- A step of a running command that is no reset: of HIST, of the operands and of the writers. -/
theorem witness_HistoryAndFaultsAreNeverCleared :
    ∃ (s t : State) (m : Move) (ms : List Move), s.rst = false ∧ s.busy = true ∧ s.script = m :: ms ∧ m ≠ .rst true ∧
      step s = .next t ∧ t.hist ≠ s.hist :=
  ⟨{ running [.op (.busStrobe 0x36#8), .clearBusy] with script := [.seq] }, _, .seq, [], rfl, rfl, rfl, by decide, rfl,
    by decide⟩
theorem witness_BusyFreezesTheOperands :
    ∃ (s t : State) (m : Move) (ms : List Move), s.rst = false ∧ s.busy = true ∧ s.script = m :: ms ∧ m ≠ .rst true ∧
      step s = .next t :=
  ⟨{ running [.clearBusy] with script := [.host], hostProg := [.w16 0x006#9 0x0001#16] }, _, .host, [], rfl, rfl, rfl,
    by decide, rfl⟩

/-- For each register a step that writes it. -/
theorem witness_OnlyTheNamedWritersWrite :
    let writes (m : Micro) (p : State → State → Bool) : Prop :=
      let s := { running [m, .clearBusy] with script := [.seq], bitIndex := 8#11, curLen := 2#8, freqQ := 5#24 }
      s.rst = false ∧ s.script = .seq :: [] ∧ ∃ t, step s = .next t ∧ p s t = true
    writes (.setRadioState .rx) (fun s t => t.radioState != s.radioState) ∧
    writes (.setChipMode .idle) (fun s t => t.chipMode != s.chipMode) ∧
    writes (.setOffsetSel true) (fun s t => t.offsetSel != s.offsetSel) ∧
    writes .incModCount (fun s t => t.modCount != s.modCount) ∧
    writes .setFreqReg (fun s t => t.freqReg != s.freqReg) ∧
    writes (.setPaEn true) (fun s t => t.paEn != s.paEn) ∧
    writes (.setLnaEn true) (fun s t => t.lnaEn != s.lnaEn) ∧
    writes .setRxIrqEn (fun s t => t.rxIrqEn != s.rxIrqEn) ∧
    writes .clearBitIndex (fun s t => t.bitIndex != s.bitIndex) ∧
    writes .setBitTotal (fun s t => t.bitTotal != s.bitTotal) ∧
    writes (.setSysState .txEnd) (fun s t => t.sysState != s.sysState) ∧
    writes .setArmed (fun s t => t.tmrArmed != s.tmrArmed) ∧
    writes (.setTmrCount 50#16) (fun s t => t.tmrCount != s.tmrCount) ∧
    writes (.op .timerStart) (fun s t => t.tmrPeriodL != s.tmrPeriodL) ∧
    writes .clearBusy (fun s t => t.busy != s.busy) ∧
    (∃ s t : State, s.rst = false ∧ s.script = .host :: [] ∧ step s = .next t ∧ t.txbuf ≠ s.txbuf) ∧
    (∃ s t : State, s.rst = false ∧ s.script = .host :: [] ∧ step s = .next t ∧ t.cmd ≠ s.cmd ∧ t.busy ≠ s.busy) ∧
    ∃ s t : State, s.rst = false ∧ s.script = .host :: [] ∧ step s = .next t ∧ s.err &&& ~~~t.err ≠ 0#16 :=
  ⟨⟨rfl, rfl, _, rfl, rfl⟩, ⟨rfl, rfl, _, rfl, rfl⟩, ⟨rfl, rfl, _, rfl, rfl⟩, ⟨rfl, rfl, _, rfl, rfl⟩,
    ⟨rfl, rfl, _, rfl, rfl⟩, ⟨rfl, rfl, _, rfl, rfl⟩, ⟨rfl, rfl, _, rfl, rfl⟩, ⟨rfl, rfl, _, rfl, rfl⟩,
    ⟨rfl, rfl, _, rfl, rfl⟩, ⟨rfl, rfl, _, rfl, rfl⟩, ⟨rfl, rfl, _, rfl, rfl⟩, ⟨rfl, rfl, _, rfl, rfl⟩,
    ⟨rfl, rfl, _, rfl, rfl⟩, ⟨rfl, rfl, _, rfl, rfl⟩, ⟨rfl, rfl, _, rfl, rfl⟩,
    ⟨{ exTx with script := [.host], hostProg := [.w8 0x100#9 0xA5#8] }, _, rfl, rfl, rfl, by decide⟩,
    ⟨{ exTx with script := [.host], hostProg := [.w16 0x000#9 0x0005#16] }, _, rfl, rfl, rfl, by decide, by decide⟩,
    { exTx with script := [.host], hostProg := [.w16 0x004#9 0x0001#16], err := 0x0003#16 }, _, rfl, rfl, rfl, by decide⟩

end Sys2Proof.Tests
end

section
/-! SUPPORT. No operation changes the parameters (00_scope.md R6): one lemma per operation, in the order of the model,
down to `stepMove`, and the statement about a step. -/

namespace Sys2Proof.Machine

/-! ## The shared operations -/

theorem busIssue_cfg {x : BusTxn} {s t : State} (h : busIssue x s = .next t) : t.cfg = s.cfg := by
  obtain ⟨_, rfl⟩ | ⟨_, rfl⟩ := busIssue_cases h <;> rfl

@[simp] theorem busComplete_cfg (r : BusResult) (s : State) : (busComplete r s).cfg = s.cfg := by
  cases r <;> rfl

theorem present_cfg {i : Instr} {w : Word} {p : State → List Micro} {s t : State} (h : present i w p s = .next t) :
    t.cfg = s.cfg := by
  obtain ⟨_, e⟩ | ⟨_, _, e⟩ | ⟨_, _, e⟩ := present_cases i w p s <;> cases e.symm.trans h <;> rfl

/-! ## The micro-operations -/

theorem execBusWrite_cfg {a : RadioAddr} {bs : List Byte} {s t : State} (h : execBusWrite a bs s = .next t) :
    t.cfg = s.cfg := by
  obtain ⟨_, rfl⟩ | ⟨_, rfl⟩ := execBusWrite_cases h <;> rfl

theorem execWriteOffset_cfg {v : BitVec 16} {s t : State} (h : execWriteOffset v s = .next t) : t.cfg = s.cfg :=
  execBusWrite_cfg h

theorem execProgramFrequency_cfg {f : BitVec 32} {s t : State} (h : execProgramFrequency f s = .next t) :
    t.cfg = s.cfg :=
  (execWriteOffset_cfg h :)

theorem execDelay_cfg {d : DelayId} {s t : State} (h : execDelay d s = .next t) : t.cfg = s.cfg := by
  unfold execDelay at h
  split at h <;> cases h <;> rfl

theorem startRamp_cfg {points : List Byte} {s t : State} (h : startRamp points s = .next t) : t.cfg = s.cfg := by
  cases points with
  | nil => cases h; rfl
  | cons b rest => exact (execBusWrite_cfg h :)

theorem execComputeFreqReg_cfg {f : BitVec 32} {s t : State} (h : execComputeFreqReg f s = .next t) :
    t.cfg = s.cfg := by
  simp only [execComputeFreqReg] at h
  split at h <;> cases h <;> rfl

theorem execModulate_cfg {s t : State} (h : execModulate s = .next t) : t.cfg = s.cfg := by
  unfold execModulate at h
  split at h
  · exact (startRamp_cfg h :)
  · cases h; rfl

theorem execCarrierUp_cfg {s t : State} (h : execCarrierUp s = .next t) : t.cfg = s.cfg := by
  unfold execCarrierUp at h
  split at h
  · exact (busIssue_cfg h :)
  · exact startRamp_cfg h

@[simp] theorem State.noteTick_cfg (s : State) : s.noteTick.cfg = s.cfg := by
  unfold State.noteTick
  split <;> rfl

theorem execTick_cfg {s t : State} (h : execTick s = .next t) : t.cfg = s.cfg := by
  cases h
  exact s.noteTick_cfg

/-- No instruction changes the parameters. -/
theorem exec_cfg {i : Instr} {s t : State} (h : exec i s = .next t) : t.cfg = s.cfg := by
  cases i with
  | initChip | closeChip | setFreq | send | startCarrier | stopCarrier => exact present_cfg h
  | busStrobe => exact busIssue_cfg h
  | busWrite => exact execBusWrite_cfg h
  | writeOffset => exact execWriteOffset_cfg h
  | programFrequency => exact execProgramFrequency_cfg h
  | delay => exact execDelay_cfg h
  | rampUp | rampDown | carrierDown => exact (startRamp_cfg h :)
  | computeFreqReg => exact execComputeFreqReg_cfg h
  | modulate => exact execModulate_cfg h
  | carrierUp => exact execCarrierUp_cfg h
  | timerStart | timerStop => cases h; rfl
  | tick => exact execTick_cfg h

/-! ## The host port -/

@[simp] theorem readTx_cfg (k : Nat) (s : State) : (readTx k s).2.cfg = s.cfg := by
  obtain e | e := readTx_state k s <;> rw [e]
  exact s.recordFault_cfg .unwritten

@[simp] theorem readTxByteAt_cfg (off : Offset) (s : State) : (readTxByteAt off s).2.cfg = s.cfg := by
  unfold readTxByteAt
  split
  · exact readTx_cfg _ s
  · rfl
  · rfl

@[simp] theorem readValue_cfg (off : Offset) (w : Width) (s : State) : (readValue off w s).2.cfg = s.cfg := by
  unfold readValue
  split <;> simp

@[simp] theorem memRead_cfg (off : Offset) (w : Width) (s : State) : (memRead off w s).cfg = s.cfg := by
  unfold memRead
  split
  · exact readValue_cfg off w s
  · rfl

theorem presentCommand_cfg {w : Word} {s t : State} (h : presentCommand w s = .next t) : t.cfg = s.cfg := by
  unfold presentCommand at h
  split at h
  · cases h; rfl
  · exact exec_cfg h

theorem writeReg_cfg {r : HostReg} {v : Word} {s t : State} (h : writeReg r v s = .next t) : t.cfg = s.cfg := by
  cases r with
  | cmd => exact presentCommand_cfg h
  | _ => cases h; rfl

@[simp] theorem writeTxByteAt_cfg (off : Offset) (b : Byte) (s : State) : (writeTxByteAt off b s).cfg = s.cfg := by
  unfold writeTxByteAt
  split <;> rfl

theorem memWrite_cfg {off : Offset} {w : Width} {v : Word} {s t : State} (h : memWrite off w v s = .next t) :
    t.cfg = s.cfg := by
  unfold memWrite at h
  split at h
  · cases h; rfl
  split at h
  · cases h; rfl
  split at h
  · exact writeReg_cfg h
  · cases h; rfl
  · cases h; rfl
  · cases h; exact writeTxByteAt_cfg _ _ _

theorem hostStmt_cfg {st : HostStmt} {s t : State} (h : hostStmt st s = .next t) : t.cfg = s.cfg := by
  cases st with
  | w16 | w8 => exact memWrite_cfg h
  | r16 | r8 => cases h; exact memRead_cfg _ _ s
  | poll off mask want =>
    simp only [hostStmt] at h
    split at h <;> cases h <;> exact memRead_cfg off .w16 s

theorem hostMove_cfg {s t : State} (h : hostMove s = .next t) : t.cfg = s.cfg := by
  unfold hostMove at h
  split at h <;> exact (hostStmt_cfg h :)

/-! ## The sequencer -/

theorem dispatchStep_cfg {s t : State} (h : dispatchStep s = .next t) : t.cfg = s.cfg := by
  unfold dispatchStep at h
  split at h <;> cases h <;> rfl

/-- The read of the bit at the cursor changes FAULTS at most. -/
@[simp] theorem cursorBit_cfg (s : State) : (cursorBit s).2.cfg = s.cfg := readTx_cfg _ s

theorem processBitStep_cfg {s t : State} (h : processBitStep s = .next t) : t.cfg = s.cfg := by
  have hread := cursorBit_cfg s
  unfold processBitStep at h
  split at h
  · cases h; rfl
  split at h <;> rename_i hbit <;> rw [hbit] at hread
  · cases h; exact hread
  · exact (exec_cfg h).trans hread
  · cases h; exact hread

theorem microStep_cfg {m : Micro} {s t : State} (h : microStep m s = .next t) : t.cfg = s.cfg := by
  cases m with
  | op => exact exec_cfg h
  | freqByte k => exact exec_cfg (i := .busWrite (freqAddr s.cfg k) [freqByteOf s.freqQ k]) h
  | dispatch => exact dispatchStep_cfg h
  | processBit => exact processBitStep_cfg h
  | _ => cases h; rfl

theorem seqMove_cfg {s t : State} (h : seqMove s = .next t) : t.cfg = s.cfg := by
  unfold seqMove at h
  split at h
  · split at h
    · cases h; rfl
    · exact (microStep_cfg h :)
  · cases h; rfl

/-! ## The other agents, and one move -/

theorem tickMove_cfg {s t : State} (h : tickMove s = .next t) : t.cfg = s.cfg := by
  unfold tickMove at h
  split at h
  · split at h
    · exact exec_cfg h
    · cases h; rfl
  · cases h; rfl

theorem busMove_cfg {r : BusResult} {s t : State} (h : busMove r s = .next t) : t.cfg = s.cfg := by
  unfold busMove at h
  split at h <;> cases h
  · exact busComplete_cfg r s
  · rfl

theorem clockEdge_cfg {s t : State} (h : clockEdge s = .next t) : t.cfg = s.cfg := by
  simp only [clockEdge] at h
  split at h
  · split at h
    · exact (exec_cfg h :)
    · cases h; rfl
  · cases h; rfl

theorem tclkMove_cfg {s t : State} (h : tclkMove s = .next t) : t.cfg = s.cfg := by
  unfold tclkMove at h
  split at h
  · cases h; rfl
  · exact clockEdge_cfg h

theorem cycleEdge_cfg {armed : Bool} {s t : State} (h : cycleEdge armed s = .next t) : t.cfg = s.cfg := by
  unfold cycleEdge at h
  split at h
  · cases h; rfl
  · exact clockEdge_cfg h

/-- A clock cycle is a host access or none, a micro-step or none, and an edge, none of which changes the parameters. -/
theorem cycleMove_cfg {a q : Bool} {s t : State} (h : cycleMove a q s = .next t) : t.cfg = s.cfg := by
  unfold cycleMove at h
  split at h
  · cases h; rfl
  · obtain ⟨v, hv, hedge⟩ := andThen_next h
    obtain ⟨u, hhost, hseq⟩ := andThen_next hv
    have hu : u.cfg = s.cfg := by
      split at hhost
      · exact hostMove_cfg hhost
      · cases hhost; rfl
    have hv : v.cfg = u.cfg := by
      split at hseq
      · exact seqMove_cfg hseq
      · cases hseq; rfl
    exact (cycleEdge_cfg hedge).trans (hv.trans hu)

/-- A move made only while `rst` is released keeps the parameters where the agent's own step does. -/
theorem unlessReset_cfg {f : State → Result} {s t : State} (hf : f s = .next t → t.cfg = s.cfg)
    (h : (if s.rst then .next s else f s) = .next t) : t.cfg = s.cfg := by
  split at h
  · cases h; rfl
  · exact hf h

/-- Block reset keeps the parameters (70_reset_and_hazards.md R264 step 1), and so does every other move. -/
theorem stepMove_cfg {m : Move} {s t : State} (h : stepMove m s = .next t) : t.cfg = s.cfg := by
  cases m with
  | host => exact unlessReset_cfg hostMove_cfg h
  | seq => exact unlessReset_cfg seqMove_cfg h
  | bus => exact unlessReset_cfg busMove_cfg h
  | tick => exact unlessReset_cfg tickMove_cfg h
  | tclk => exact unlessReset_cfg tclkMove_cfg h
  | cycle => exact unlessReset_cfg cycleMove_cfg h
  | rst asserted =>
    simp only [stepMove] at h
    split at h <;> cases h <;> rfl

/-- Settles O57: a step is one move, scheduled or free, and no move changes the parameters. -/
theorem parametersNeverChange : Obligations.ParametersNeverChange := by
  intro s t h
  unfold step runNext at h
  split at h <;> exact (stepMove_cfg h :)

end Sys2Proof.Machine
end

section
/-! SUPPORT. A scheduled micro-step of the sequencer, and the overrun of TXPROC_BODY (42_tx_state_machine.md R195). -/

namespace Sys2Proof.Machine

open Sys2Proof.Safety

theorem sequencerFree_iff {s : State} : s.sequencerFree = true ↔ s.busy = true ∧ s.bus = none ∧ s.hold = 0 := by
  simp [State.sequencerFree, and_assoc]

/-- A sequencer step out of reset is the micro-step of the statement at the head of SEQ. -/
theorem step_seq {s : State} {ms : List Move} {m : Micro} {rest : List Micro} (hs : s.script = .seq :: ms)
    (hr : s.rst = false) (hf : s.sequencerFree = true) (hq : s.seq = m :: rest) :
    step s = microStep m { s with script := ms, seq := rest } := by
  rw [step_scheduled hs, stepMove, if_neg (by simp [hr])]
  exact seqMove_next (s := { s with script := ms }) hf hq

/-- A run that begins with a micro-step that answers `t` goes on from `t`. -/
theorem run_seq_succ {s t : State} {ms : List Move} {m : Micro} {rest : List Micro} (n : Nat)
    (hs : s.script = .seq :: ms) (hr : s.rst = false) (hf : s.sequencerFree = true) (hq : s.seq = m :: rest)
    (ht : microStep m { s with script := ms, seq := rest } = .next t) : run (n + 1) s = run n t := by
  rw [run_succ, step_seq hs hr hf hq, ht, andThen]

/-- OVERRUN's first micro-step, the raise (R195). -/
theorem microStep_processBit_overrun {s : State} (h : s.bitTotal ≤ s.bitIndex) :
    microStep .processBit s = .next ((s.raise .cursorOverrun).before overrunRest) := if_pos h

/-- Settles O38: the raise, the fault and the write of SYS_STATE, one micro-step each. -/
theorem overrunGoesToTxEnd : Obligations.OverrunGoesToTxEnd := by
  intro s rest hcalm hbusy hseq hpast
  obtain ⟨hrst, -, hbus, hhold, -⟩ := hcalm
  have hfree : s.sequencerFree = true := sequencerFree_iff.2 ⟨hbusy, hbus, hhold⟩
  calc runScript [.seq, .seq, .seq] s
      = run 2 { s.raise .cursorOverrun with script := [.seq, .seq], seq := overrunRest ++ rest } :=
        run_seq_succ 2 rfl hrst hfree hseq
          (microStep_processBit_overrun (s := { s with script := [.seq, .seq], seq := rest }) hpast)
    _ = run 1 { (s.raise .cursorOverrun).recordFault .cursorOverrun with
          script := [.seq], seq := .setSysState .txEnd :: .dispatch :: rest } :=
        run_seq_succ 1 rfl hrst hfree rfl rfl
    _ = _ := run_seq_succ 0 rfl hrst hfree rfl rfl

end Sys2Proof.Machine
end

section
/-! SUPPORT. What an operation can leave behind in HIST, FAULTS and ERR (10_state.md R30, R40), and the operands that only
the host writes (R39). -/

namespace Sys2Proof.Machine

@[simp] theorem FaultSet.has_add (f : FaultSet) (x y : ModelFault) : (f.add x).has y = (f.has y || x == y) := by
  cases x <;> cases y <;> simp [FaultSet.add, FaultSet.has]

/-- HIST is extended, no fault is lost, and ERR gains flags of its low byte at most: what every step but the host's write
of ERR and block reset does to the three. -/
def Grows (s t : State) : Prop :=
  s.hist <+: t.hist ∧ (∀ f, s.faults.has f = true → t.faults.has f = true) ∧
    ∃ e : Word, e.extractLsb' 8 8 = 0#8 ∧ t.err = s.err ||| e

theorem Grows.refl (s : State) : Grows s s :=
  ⟨List.prefix_rfl, fun _ => id, 0#16, rfl, BitVec.or_zero.symm⟩

theorem Grows.trans {s t u : State} (hst : Grows s t) (htu : Grows t u) : Grows s u := by
  obtain ⟨hist, faults, e, he, err⟩ := hst
  obtain ⟨hist', faults', e', he', err'⟩ := htu
  exact ⟨hist.trans hist', fun f => faults' f ∘ faults f, e ||| e', by simp [BitVec.extractLsb'_or, he, he'],
    by rw [err', err, BitVec.or_assoc]⟩

theorem Grows.hist {s t : State} (h : Grows s t) : s.hist <+: t.hist := h.1

theorem Grows.faults {s t : State} (h : Grows s t) (f : ModelFault) (hf : s.faults.has f = true) :
    t.faults.has f = true := h.2.1 f hf

theorem ErrFlag.bit_high (e : ErrFlag) : e.bit.extractLsb' 8 8 = 0#8 := by
  cases e <;> rfl

theorem Grows.raise (s : State) (e : ErrFlag) : Grows s (s.raise e) :=
  ⟨List.prefix_rfl, fun _ => id, e.bit, e.bit_high, rfl⟩

theorem Grows.recordFault (s : State) (f : ModelFault) : Grows s (s.recordFault f) :=
  ⟨List.prefix_rfl, fun _ h => by simp [h], 0#16, rfl, BitVec.or_zero.symm⟩

theorem Grows.record (s : State) (e : Event) : Grows s (s.record e) :=
  ⟨List.prefix_append _ _, fun _ => id, 0#16, rfl, BitVec.or_zero.symm⟩

/-- Where ERR only gains flags, none is cleared. -/
theorem Grows.err_kept {s t : State} (h : Grows s t) : s.err &&& ~~~t.err = 0#16 := by
  obtain ⟨-, -, e, -, err⟩ := h
  rw [err]
  ext i
  cases hi : s.err[i] <;> simp [hi]

theorem Grows.err_high {s t : State} (h : Grows s t) (hs : s.err.extractLsb' 8 8 = 0#8) :
    t.err.extractLsb' 8 8 = 0#8 := by
  obtain ⟨-, -, e, he, err⟩ := h
  rw [err, BitVec.extractLsb'_or, hs, he, BitVec.or_zero]

/-- What a command works on and only the host writes: CMD, PROFILE, FREQ, TXBUF and the latches of acceptance. -/
def State.operands (s : State) : Word × Word × BitVec 32 × Memory × BitVec 4 × BitVec 1 × Byte × BitVec 3 × BitVec 32 :=
  (s.cmd, s.profile, s.freq, s.txbuf, s.curOp, s.curMode, s.curLen, s.profL, s.freqL)

theorem operands_eq_iff {s t : State} : t.operands = s.operands ↔
    t.cmd = s.cmd ∧ t.profile = s.profile ∧ t.freq = s.freq ∧ t.txbuf = s.txbuf ∧ t.curOp = s.curOp ∧
    t.curMode = s.curMode ∧ t.curLen = s.curLen ∧ t.profL = s.profL ∧ t.freqL = s.freqL := by
  simp [State.operands]

/-- The registers that only the sequencer writes (10_state.md R24, R25, R31 to R37, R39). -/
def State.registers (s : State) : ChipMode × RadioMode × Bool × BitVec 16 × BitVec 24 × Bool × Bool × Bool ×
    BitVec 11 × BitVec 11 × Bool × BitVec 16 :=
  (s.chipMode, s.radioState, s.offsetSel, s.modCount, s.freqReg, s.paEn, s.lnaEn, s.rxIrqEn, s.bitIndex, s.bitTotal,
    s.tmrArmed, s.tmrPeriodL)

end Sys2Proof.Machine
end

section
/-! SUPPORT. What a micro-step of the sequencer can do: one lemma per micro-operation, then one for all statements of SEQ. -/

namespace Sys2Proof.Machine

open Sys2Proof.Safety

/-- The frame of a micro-operation: it touches SEQ, the bus port, the delay, `freqQ` and the records, nothing else. -/
structure OpFrame (s t : State) : Prop where
  frame : t = { s with
    seq := t.seq, bus := t.bus, hold := t.hold, busWait := t.busWait, freqQ := t.freqQ, err := t.err, hist := t.hist
    faults := t.faults }
  grows : Grows s t

theorem OpFrame.refl (s : State) : OpFrame s s := ⟨rfl, .refl s⟩

theorem OpFrame.before (s : State) (ms : List Micro) : OpFrame s (s.before ms) := ⟨rfl, .refl s⟩

theorem OpFrame.raise (s : State) (e : ErrFlag) : OpFrame s (s.raise e) := ⟨rfl, .raise s e⟩

theorem OpFrame.recordFault (s : State) (f : ModelFault) : OpFrame s (s.recordFault f) := ⟨rfl, .recordFault s f⟩

theorem OpFrame.record (s : State) (e : Event) : OpFrame s (s.record e) := ⟨rfl, .record s e⟩

/-- The statements placed before the rest of SEQ belong to the frame. -/
theorem OpFrame.of_before {s t : State} {ms : List Micro} (h : OpFrame (s.before ms) t) : OpFrame s t :=
  ⟨h.frame, h.grows⟩

/-- The same, where only statements that leave the cursor alone are placed before the rest of SEQ. -/
structure OpEffect (s t : State) : Prop extends OpFrame s t where
  placed : ∃ pre, t.seq = pre ++ s.seq ∧ ∀ m ∈ pre, cursorOp m = false

theorem OpEffect.of_seq {s t : State} (h : OpFrame s t) (hseq : t.seq = s.seq) : OpEffect s t :=
  ⟨h, [], hseq, by simp⟩

theorem OpEffect.of_before {s t : State} {ms : List Micro} (hms : ∀ m ∈ ms, cursorOp m = false)
    (h : OpEffect (s.before ms) t) : OpEffect s t := by
  obtain ⟨hframe, pre, hseq, hpre⟩ := h
  refine ⟨hframe.of_before, pre ++ ms, by simpa using hseq, fun m hm => ?_⟩
  exact (List.mem_append.1 hm).elim (hpre m) (hms m)

/-! ## The micro-operations -/

theorem busIssue_effect {x : BusTxn} {s t : State} (h : busIssue x s = .next t) : OpEffect s t := by
  obtain ⟨_, rfl⟩ | ⟨_, rfl⟩ := busIssue_cases h
  · exact .of_seq ⟨rfl, .record s x.event⟩ rfl
  · exact .of_before (by simp [cursorOp]) (.of_seq (.refl _) rfl)

theorem execBusWrite_effect {a : RadioAddr} {bs : List Byte} {s t : State} (h : execBusWrite a bs s = .next t) :
    OpEffect s t := by
  unfold execBusWrite at h
  split at h
  · cases h
  · exact busIssue_effect h

theorem execWriteOffset_effect {v : BitVec 16} {s t : State} (h : execWriteOffset v s = .next t) : OpEffect s t :=
  execBusWrite_effect h

theorem execDelay_effect {d : DelayId} {s t : State} (h : execDelay d s = .next t) : OpEffect s t := by
  unfold execDelay at h
  split at h <;> cases h <;> exact .of_seq ⟨rfl, .record s (.delay d)⟩ rfl

/-- A ramp is writes and delays. -/
theorem cursorOp_of_mem_rampBody {a : RadioAddr} {d : DelayId} {points : List Byte} {m : Micro}
    (h : m ∈ rampBody a d points) : cursorOp m = false := by
  obtain ⟨b, -, hm⟩ := List.mem_flatMap.1 h
  simp only [List.mem_cons, List.not_mem_nil, or_false] at hm
  obtain rfl | rfl := hm <;> rfl

theorem startRamp_effect {points : List Byte} {s t : State} (h : startRamp points s = .next t) : OpEffect s t := by
  cases points with
  | nil => cases h; exact .of_seq (.refl s) rfl
  | cons b rest =>
    refine .of_before (fun m hm => ?_) (execBusWrite_effect h)
    obtain rfl | hm := List.mem_cons.1 hm
    · rfl
    · exact cursorOp_of_mem_rampBody hm

theorem execComputeFreqReg_effect {f : BitVec 32} {s t : State} (h : execComputeFreqReg f s = .next t) :
    OpEffect s t := by
  simp only [execComputeFreqReg] at h
  split at h <;> cases h
  · exact .of_seq ⟨rfl, .refl s⟩ rfl
  · exact ⟨⟨rfl, .raise s .freqRange⟩, [.recordFault .freqRange], rfl, by simp [cursorOp]⟩

theorem execProgramFrequency_effect {f : BitVec 32} {s t : State} (h : execProgramFrequency f s = .next t) :
    OpEffect s t :=
  .of_before (ms := programFrequencyRest f) (by simp [programFrequencyRest, cursorOp]) (execWriteOffset_effect h)

theorem execModulate_effect {s t : State} (h : execModulate s = .next t) : OpEffect s t := by
  unfold execModulate at h
  split at h
  · exact .of_before (by simp [State.modulateRest, cursorOp]) (startRamp_effect h)
  · cases h
    exact ⟨⟨rfl, .recordFault s .internal⟩, _, rfl, by simp [State.modulateRest, cursorOp]⟩

theorem execCarrierUp_effect {s t : State} (h : execCarrierUp s = .next t) : OpEffect s t := by
  unfold execCarrierUp at h
  split at h
  · exact .of_before (by simp [cursorOp]) (busIssue_effect h)
  · exact startRamp_effect h

theorem execCarrierDown_effect {s t : State} (h : execCarrierDown s = .next t) : OpEffect s t := by
  refine .of_before (ms := s.carrierDownRest) ?_ (startRamp_effect h)
  unfold State.carrierDownRest
  split <;> simp [cursorOp]

theorem present_busy {i : Instr} {w : Word} {p : State → List Micro} {s : State} (hb : s.busy = true) :
    present i w p s = .next (s.raise .busyWrite) := by
  simp [present, hb]

/-- What TICK can do (R176): SYS_STATE goes to TxProcessing or stays, and the tick is recorded or raises. -/
structure TickEffect (s t : State) : Prop where
  frame : t = { s with sysState := t.sysState, err := t.err, hist := t.hist }
  grows : Grows s t
  sysState : t.sysState ≠ s.sysState → t.sysState = .txProcessing

theorem tickTarget_cases (g : TickGating) (v : SysState) : tickTarget g v = v ∨ tickTarget g v = .txProcessing := by
  cases g <;> cases v <;> simp [tickTarget]

theorem execTick_effect {s t : State} (h : execTick s = .next t) : TickEffect s t := by
  cases h
  refine ⟨?_, ?_, (tickTarget_cases _ _).resolve_left⟩
  · unfold State.noteTick
    split <;> rfl
  · unfold State.noteTick
    split
    · exact Grows.record s .tick
    all_goals exact Grows.raise s .tickAbsorbed

/-- What an instruction can do while a command runs: a command is dropped, and a micro-operation keeps to its frame, but
TICK and the two of the timer, which write what R170, R171 and R176 say. -/
theorem exec_busy_cases {i : Instr} {s t : State} (hb : s.busy = true) (h : exec i s = .next t) :
    OpEffect s t ∨ (i = .tick ∧ TickEffect s t) ∨
    (i = .timerStart ∧
      t = { s with tmrPeriodL := s.tickPeriod, seq := [.setTmrCount s.cfg.tickSeed, .setArmed] ++ s.seq }) ∨
    (i = .timerStop ∧ t = { s with tmrArmed := false, seq := [.setTmrCount 0#16] ++ s.seq }) := by
  cases i with
  | tick => exact .inr (.inl ⟨rfl, execTick_effect h⟩)
  | timerStart => cases h; exact .inr (.inr (.inl ⟨rfl, rfl⟩))
  | timerStop => cases h; exact .inr (.inr (.inr ⟨rfl, rfl⟩))
  | initChip | closeChip | setFreq | send | startCarrier | stopCarrier =>
    cases (present_busy hb).symm.trans h
    exact .inl (.of_seq (.raise s .busyWrite) rfl)
  | busStrobe => exact .inl (busIssue_effect h)
  | busWrite => exact .inl (execBusWrite_effect h)
  | writeOffset => exact .inl (execWriteOffset_effect h)
  | delay => exact .inl (execDelay_effect h)
  | rampUp => exact .inl (startRamp_effect h)
  | rampDown => exact .inl (startRamp_effect h)
  | computeFreqReg => exact .inl (execComputeFreqReg_effect h)
  | programFrequency => exact .inl (execProgramFrequency_effect h)
  | modulate => exact .inl (execModulate_effect h)
  | carrierUp => exact .inl (execCarrierUp_effect h)
  | carrierDown => exact .inl (execCarrierDown_effect h)

/-! ## DISPATCH and the head of TXPROC_BODY -/

/-- DISPATCH places the body of SYS_STATE, itself the body of TxWaiting (R197). -/
theorem dispatchStep_cases {s t : State} (h : dispatchStep s = .next t) :
    ∃ body ∈ [txStartBody, [.dispatch], txProcBody, txEndBody], t = s.before body := by
  unfold dispatchStep at h
  split at h <;> cases h <;> exact ⟨_, by simp, rfl⟩

theorem readTx_of_none {k : Nat} {s : State} (h : s.txbuf.read k = none) :
    readTx k s = (Config.freeByte s.resets k, s.recordFault .unwritten) := by
  simp [readTx, h]

/-- The head of TXPROC_BODY (R194): past the end it raises; else an unwritten byte faults and the body goes on, a 0 bit
starts MODULATE, and a 1 bit increments the cursor. -/
theorem processBitStep_cases {s t : State} (h : processBitStep s = .next t) :
    (s.bitTotal ≤ s.bitIndex ∧ t = (s.raise .cursorOverrun).before overrunRest) ∨
    (s.bitIndex < s.bitTotal ∧ ((∃ b, t = (s.recordFault .unwritten).before (bitBody b)) ∨
      execModulate (s.before afterBit) = .next t ∨
      t = { s.before [.leaveTxProcessing, .dispatch] with bitIndex := s.bitIndex + 1 })) := by
  unfold processBitStep at h
  split at h
  · cases h; exact .inl ⟨‹_›, rfl⟩
  refine .inr ⟨BitVec.not_le.1 ‹_›, ?_⟩
  split at h <;> rename_i hread hbit <;> simp only [cursorBit, Prod.mk.injEq] at hbit <;> obtain ⟨-, hs⟩ := hbit
  · cases h
    exact .inl ⟨_, by rw [← hs, readTx_of_none hread]⟩
  all_goals rw [readTx_of_some hread] at hs; subst hs
  · exact .inr (.inl h)
  · cases h; exact .inr (.inr rfl)

/-! ## Every statement of SEQ -/

/-- Which registers a statement of SEQ may write (10_state.md R22 to R37). -/
structure RegisterWrites (m : Micro) (s t : State) : Prop where
  radioState : t.radioState ≠ s.radioState → ∃ v, m = .setRadioState v
  chipMode : t.chipMode ≠ s.chipMode → ∃ v, m = .setChipMode v
  offsetSel : t.offsetSel ≠ s.offsetSel → ∃ v, m = .setOffsetSel v
  modCount : t.modCount ≠ s.modCount → m = .incModCount
  freqReg : t.freqReg ≠ s.freqReg → m = .setFreqReg
  paEn : t.paEn ≠ s.paEn → ∃ v, m = .setPaEn v
  lnaEn : t.lnaEn ≠ s.lnaEn → ∃ v, m = .setLnaEn v
  rxIrqEn : t.rxIrqEn ≠ s.rxIrqEn → m = .setRxIrqEn
  bitIndex : t.bitIndex ≠ s.bitIndex → m = .clearBitIndex ∨ m = .processBit ∨ m = .incBitIndex
  bitTotal : t.bitTotal ≠ s.bitTotal → m = .setBitTotal
  sysState : t.sysState ≠ s.sysState →
    (∃ v, m = .setSysState v) ∨ m = .op .tick ∨ m = .leaveTxStart ∨ m = .leaveTxProcessing
  busy : t.busy ≠ s.busy → t.busy = false ∧ m = .clearBusy
  tmrArmed : t.tmrArmed ≠ s.tmrArmed → m = .setArmed ∨ m = .op .timerStop
  tmrCount : t.tmrCount ≠ s.tmrCount → ∃ v, m = .setTmrCount v
  tmrPeriodL : t.tmrPeriodL ≠ s.tmrPeriodL → m = .op .timerStart

/-- What a statement of SEQ can do: extend the records, write its register, and leave the operands alone. -/
structure MicroEffect (m : Micro) (s t : State) : Prop where
  grows : Grows s t
  operands : t.operands = s.operands
  writes : RegisterWrites m s t

theorem MicroEffect.of_frame {m : Micro} {s t : State} (h : OpFrame s t) : MicroEffect m s t := by
  obtain ⟨frame, grows⟩ := h
  refine ⟨grows, ?_, ?_⟩ <;> rw [frame]
  · rfl
  · constructor <;> exact fun h => absurd rfl h

theorem MicroEffect.of_tick {s t : State} (h : TickEffect s t) : MicroEffect (.op .tick) s t := by
  obtain ⟨frame, grows, -⟩ := h
  refine ⟨grows, ?_, ?_⟩ <;> rw [frame]
  · rfl
  · constructor <;> simp

theorem microStep_freqByte_effect {k : Fin 3} {s t : State} (h : microStep (.freqByte k) s = .next t) : OpEffect s t :=
  execBusWrite_effect (a := freqAddr s.cfg k) (bs := [freqByteOf s.freqQ k]) h

theorem microStep_effect {m : Micro} {s t : State} (hb : s.busy = true) (h : microStep m s = .next t) :
    MicroEffect m s t := by
  cases m with
  | op i =>
    obtain hop | ⟨rfl, htick⟩ | ⟨rfl, rfl⟩ | ⟨rfl, rfl⟩ := exec_busy_cases hb h
    · exact .of_frame hop.toOpFrame
    · exact .of_tick htick
    all_goals exact ⟨.refl s, rfl, by constructor <;> simp⟩
  | freqByte => exact .of_frame (microStep_freqByte_effect h).toOpFrame
  | recordFe | recordIrqEn => cases h; exact .of_frame (.record s _)
  | recordFault f => cases h; exact .of_frame (.recordFault s f)
  | dispatch =>
    obtain ⟨body, -, rfl⟩ := dispatchStep_cases h
    exact .of_frame (.before s body)
  | processBit =>
    obtain ⟨-, rfl⟩ | ⟨-, ⟨b, rfl⟩ | h | rfl⟩ := processBitStep_cases h
    · exact .of_frame ⟨rfl, .raise s .cursorOverrun⟩
    · exact .of_frame ⟨rfl, .recordFault s .unwritten⟩
    · exact .of_frame (execModulate_effect h).toOpFrame.of_before
    · exact ⟨.refl s, rfl, by constructor <;> simp⟩
  | _ => cases h; exact ⟨.refl s, rfl, by constructor <;> simp⟩

/-- Only `BUSY <- 0` ends a command. -/
theorem microStep_busy {m : Micro} {s t : State} (hb : s.busy = true) (hne : m ≠ .clearBusy)
    (h : microStep m s = .next t) : t.busy = true := by
  by_contra ht
  exact hne ((microStep_effect hb h).writes.busy (by rwa [hb])).2

/-- A statement that is no end of a command and none that the cursor's bounds depend on places none of the latter. -/
theorem microStep_placed {m : Micro} {s t : State} (hb : s.busy = true) (hm : cursorOp m = false) (hne : m ≠ .clearBusy)
    (h : microStep m s = .next t) : ∃ pre, t.seq = pre ++ s.seq ∧ ∀ x ∈ pre, cursorOp x = false := by
  cases m with
  | op i =>
    obtain hop | ⟨-, htick⟩ | ⟨-, rfl⟩ | ⟨-, rfl⟩ := exec_busy_cases hb h
    · exact hop.placed
    · exact ⟨[], (congrArg State.seq htick.frame :), by simp⟩
    all_goals exact ⟨_, rfl, by simp [cursorOp]⟩
  | freqByte => exact (microStep_freqByte_effect h).placed
  | clearBusy => exact absurd rfl hne
  | dispatch | processBit => cases hm
  | _ => cases h; exact ⟨[], rfl, by simp⟩

end Sys2Proof.Machine
end

section
/-! SUPPORT. What a move of the other agents can do, and every move as a host access, a micro-step and an edge. -/

namespace Sys2Proof.Machine

open Sys2Proof.Safety

/-- What the sequencer's move can do: nothing, or the next statement of SEQ. -/
inductive SeqEffect (s t : State) : Prop
  | idle (e : t = s)
  | runs (m : Micro) (rest : List Micro) (busy : s.busy = true) (bus : s.bus = none) (seq : s.seq = m :: rest)
      (micro : microStep m { s with seq := rest } = .next t)

theorem seqMove_effect {s t : State} (h : seqMove s = .next t) : SeqEffect s t := by
  unfold seqMove at h
  split at h
  next hfree =>
    obtain ⟨busy, bus, -⟩ := sequencerFree_iff.1 hfree
    split at h
    next => cases h; exact .idle rfl
    next m rest hseq => exact .runs m rest busy bus hseq h
  next => cases h; exact .idle rfl

theorem SeqEffect.grows {s t : State} (h : SeqEffect s t) : Grows s t := by
  cases h with
  | idle e => rw [e]; exact .refl s
  | runs m rest busy bus seq micro => exact (microStep_effect (s := { s with seq := rest }) busy micro).grows

/-- The sequencer writes no operand (R39). -/
theorem SeqEffect.operands {s t : State} (h : SeqEffect s t) : t.operands = s.operands := by
  cases h with
  | idle e => rw [e]
  | runs m rest busy bus seq micro => exact (microStep_effect (s := { s with seq := rest }) busy micro).operands

/-! ## The timer, the clock and the bus responder -/

/-- What the timer, the clock and the bus responder can do together. -/
structure EnvEffect (s t : State) : Prop where
  frame : t = { s with
    bus := t.bus, hold := t.hold, busWait := t.busWait, tmrCount := t.tmrCount, sysState := t.sysState, err := t.err
    hist := t.hist, faults := t.faults }
  grows : Grows s t
  bus : s.bus = none → t.bus = none
  sysState : t.sysState ≠ s.sysState → t.sysState = .txProcessing

theorem EnvEffect.refl (s : State) : EnvEffect s s := ⟨rfl, .refl s, id, absurd rfl⟩

theorem EnvEffect.countWaits (s : State) : EnvEffect s s.countWaits := ⟨rfl, .refl s, id, absurd rfl⟩

theorem EnvEffect.of_tick {s t : State} (h : TickEffect s t) : EnvEffect s t := by
  obtain ⟨frame, grows, sysState⟩ := h
  refine ⟨?_, grows, fun hb => ?_, sysState⟩ <;> rw [frame]
  exact hb

theorem EnvEffect.operands {s t : State} (h : EnvEffect s t) : t.operands = s.operands :=
  (congrArg State.operands h.frame :)

theorem EnvEffect.registers {s t : State} (h : EnvEffect s t) : t.registers = s.registers :=
  (congrArg State.registers h.frame :)

theorem EnvEffect.busy {s t : State} (h : EnvEffect s t) : t.busy = s.busy := (congrArg State.busy h.frame :)

theorem EnvEffect.seq {s t : State} (h : EnvEffect s t) : t.seq = s.seq := (congrArg State.seq h.frame :)

theorem tickMove_effect {s t : State} (h : tickMove s = .next t) : t = s ∨ TickEffect s t := by
  unfold tickMove at h
  split at h
  · split at h
    · exact .inr (execTick_effect h)
    · cases h; exact .inl rfl
  · cases h; exact .inl rfl

/-- A completion clears the transaction and may raise and fault; it writes no register. -/
theorem busMove_effect {r : BusResult} {s t : State} (h : busMove r s = .next t) :
    t = { s with bus := t.bus, err := t.err, faults := t.faults } ∧ EnvEffect s t := by
  unfold busMove at h
  split at h <;> cases h
  · cases r with
    | ok => exact ⟨rfl, rfl, .refl s, fun _ => rfl, absurd rfl⟩
    | err => exact ⟨rfl, rfl, (Grows.raise s .busFault).trans (.recordFault _ .bus), fun _ => rfl, absurd rfl⟩
  · exact ⟨rfl, .refl s⟩

theorem clockEdge_effect {s t : State} (h : clockEdge s = .next t) : EnvEffect s t := by
  simp only [clockEdge] at h
  split at h
  · split at h
    · obtain ⟨frame, grows, bus, sysState⟩ := EnvEffect.of_tick (execTick_effect h)
      exact ⟨frame, grows, bus, sysState⟩
    · cases h; exact ⟨rfl, .refl s, id, absurd rfl⟩
  · cases h; exact .countWaits s

theorem tclkMove_effect {s t : State} (h : tclkMove s = .next t) : EnvEffect s t := by
  unfold tclkMove at h
  split at h
  · cases h; exact .refl s
  · exact clockEdge_effect h

theorem cycleEdge_effect {armed : Bool} {s t : State} (h : cycleEdge armed s = .next t) : EnvEffect s t := by
  unfold cycleEdge at h
  split at h
  · cases h; exact .countWaits s
  · exact clockEdge_effect h

/-! ## The host -/

/-- What a host access can do: a read, a refusal or a write that is ignored; a write of ERR; with BUSY = 0 a write of
PROFILE, FREQ or TXBUF, or the acceptance of a command. -/
inductive HostEffect (s t : State) : Prop
  | note
      (frame : t = { s with
        hostProg := t.hostProg, draws := t.draws, rdata := t.rdata, err := t.err, faults := t.faults })
      (grows : Grows s t)
  | clearErr (v : Word) (e : t = { s with hostProg := t.hostProg, draws := t.draws, err := clearErrBits s.err v })
  | store (idle : s.busy = false)
      (frame : t = { s with
        hostProg := t.hostProg, draws := t.draws, profile := t.profile, freq := t.freq, txbuf := t.txbuf })
      (txbuf : s.txbuf.wf → t.txbuf.wf)
      (profile : s.profile.extractLsb' 3 13 = 0#13 → t.profile.extractLsb' 3 13 = 0#13)
  | accept (idle : s.busy = false) (i : Instr) (u : State) (command : i.isCommand = true)
      (frame : t = { s with
        hostProg := t.hostProg, draws := t.draws, cmd := t.cmd, curOp := t.curOp, curMode := t.curMode
        curLen := t.curLen, profL := t.profL, freqL := t.freqL, busy := true, seq := commandProgram i u })

theorem HostEffect.raise (s : State) (e : ErrFlag) : HostEffect s (s.raise e) := .note rfl (.raise s e)

/-- Which statement comes next in the host's program is no part of the effect. -/
theorem HostEffect.of_program {s t : State} {prog : List HostStmt} {n : Nat}
    (h : HostEffect { s with hostProg := prog, draws := n } t) : HostEffect s t := by
  cases h with
  | note frame grows => exact .note frame grows
  | clearErr v e => exact .clearErr v e
  | store idle frame txbuf profile => exact .store idle frame txbuf profile
  | accept idle i u command frame => exact .accept idle i u command frame

theorem readTxByteAt_state (off : Offset) (s : State) :
    (readTxByteAt off s).2 = s ∨ (readTxByteAt off s).2 = s.recordFault .unwritten := by
  unfold readTxByteAt
  split
  · exact readTx_state _ s
  · exact .inl rfl
  · exact .inl rfl

/-- A read, of two TXBUF bytes as of one, changes FAULTS at most. -/
theorem readValue_state (off : Offset) (w : Width) (s : State) :
    (readValue off w s).2 = s ∨ (readValue off w s).2 = s.recordFault .unwritten := by
  unfold readValue
  split
  · exact .inl rfl
  · exact .inl rfl
  · exact readTx_state _ s
  next k _ =>
    obtain hlo | hlo := readTx_state k s <;> simp only [hlo]
    · exact readTxByteAt_state _ s
    · exact .inr ((readTxByteAt_state (off + 1) (s.recordFault .unwritten)).elim id id)

/-- A read puts a value on the port; an unwritten byte faults besides, and an illegal access raises. -/
theorem memRead_cases (off : Offset) (w : Width) (s : State) :
    ∃ u v, (u = s ∨ u = s.recordFault .unwritten ∨ u = s.raise .access) ∧ memRead off w s = { u with rdata := v } := by
  unfold memRead
  split
  · exact ⟨_, _, (readValue_state off w s).imp_right .inl, rfl⟩
  · exact ⟨_, _, .inr (.inr rfl), rfl⟩

/-- A read, and what it leaves of the host's program. -/
theorem memRead_effect (off : Offset) (w : Width) (s : State) (prog : List HostStmt) :
    HostEffect s { memRead off w s with hostProg := prog } := by
  obtain ⟨_, v, rfl | rfl | rfl, e⟩ := memRead_cases off w s <;> rw [e]
  · exact .note rfl (.refl _)
  · exact .note rfl (.recordFault s .unwritten)
  · exact .note rfl (.raise s .access)

/-- A command is presented with its word and its program. -/
theorem exec_command {i : Instr} (hi : i.isCommand = true) (s : State) :
    ∃ w, exec i s = present i w (commandProgram i) s := by
  cases i with
  | initChip | closeChip | setFreq | send | startCarrier | stopCarrier => exact ⟨_, rfl⟩
  | _ => cases hi

theorem decodePlain_ok {w : Word} {i j : Instr} (h : decodePlain w i = .ok j) : j = i := by
  unfold decodePlain at h
  split at h
  · cases h
  split at h <;> cases h
  rfl

/-- Only commands have a word (R97). -/
theorem decodeWord_isCommand {w : Word} {i : Instr} (h : decodeWord w = .ok i) : i.isCommand = true := by
  unfold decodeWord at h
  split at h
  · cases h
  split at h
  · split at h <;> cases h; rfl
  · rw [decodePlain_ok h]; rfl
  · rw [decodePlain_ok h]; rfl
  · split at h <;> cases h; rfl
  · rw [decodePlain_ok h]; rfl
  · rw [decodePlain_ok h]; rfl
  · cases h

theorem presentCommand_effect {w : Word} {s t : State} (h : presentCommand w s = .next t) : HostEffect s t := by
  unfold presentCommand at h
  split at h
  next => cases h; exact .raise s .illegalOp
  next i hi =>
    have hcmd := decodeWord_isCommand hi
    obtain ⟨v, hv⟩ := exec_command hcmd s
    rw [hv] at h
    obtain ⟨-, e⟩ | ⟨-, -, e⟩ | ⟨idle, -, e⟩ := present_cases i v (commandProgram i) s <;> cases e.symm.trans h
    · exact .raise s .busyWrite
    · exact .raise s .mode
    · exact .accept idle i (s.latch v) hcmd rfl

theorem writeReg_effect {r : HostReg} {v : Word} {s t : State} (hb : s.busy = false) (h : writeReg r v s = .next t) :
    HostEffect s t := by
  cases r with
  | cmd => exact presentCommand_effect h
  | err => cases h; exact .clearErr v rfl
  | profile =>
    cases h
    exact .store hb rfl id fun _ => by ext j; simp
  | freqLo | freqHi => cases h; exact .store hb rfl id id
  | _ => cases h; exact .note rfl (.refl s)

theorem memWrite_err (v : Word) (s : State) :
    memWrite 0x004#9 .w16 v s = .next { s with err := clearErrBits s.err v } := by
  simp [memWrite, legalAccess, locate, writeReg]

/-- A write to ERR clears flags; an 8-bit one is refused (R64). -/
theorem memWrite_err_effect {w : Width} {v : Word} {s t : State} (h : memWrite 0x004#9 w v s = .next t) :
    HostEffect s t := by
  cases w with
  | w8 => cases h; exact .raise s .access
  | w16 => cases (memWrite_err v s).symm.trans h; exact .clearErr v rfl

theorem writeTxByteAt_frame (off : Offset) (b : Byte) (s : State) :
    writeTxByteAt off b s = { s with txbuf := (writeTxByteAt off b s).txbuf } := by
  unfold writeTxByteAt
  split <;> rfl

theorem memWrite_effect {off : Offset} {w : Width} {v : Word} {s t : State} (h : memWrite off w v s = .next t) :
    HostEffect s t := by
  by_cases hoff : off = 0x004#9
  · subst hoff; exact memWrite_err_effect h
  unfold memWrite at h
  split at h
  · cases h; exact .raise s .access
  split at h
  · cases h; exact .raise s .busyWrite
  rename_i hidle
  have hb : s.busy = false := by simpa [hoff] using hidle
  split at h
  · exact writeReg_effect hb h
  · cases h; exact .note rfl (.refl s)
  next k hloc _ => cases h; exact .store hb rfl (writeTx_wf · (locate_txbuf hloc).1) id
  next k hloc _ =>
    cases h
    refine .store hb ?_ (fun hs => writeTxByteAt_wf (writeTx_wf hs (locate_txbuf hloc).1)) ?_ <;>
      rw [writeTxByteAt_frame]
    · rfl
    · exact id

theorem hostStmt_effect {st : HostStmt} {s t : State} (h : hostStmt st s = .next t) : HostEffect s t := by
  cases st with
  | w16 | w8 => exact memWrite_effect h
  | r16 | r8 => cases h; exact memRead_effect _ _ s _
  | poll off mask want =>
    simp only [hostStmt] at h
    split at h <;> cases h <;> exact memRead_effect off .w16 s _

theorem hostMove_effect {s t : State} (h : hostMove s = .next t) : HostEffect s t := by
  unfold hostMove at h
  split at h <;> exact .of_program (s := s) (hostStmt_effect h)

/-! ## One move -/

/-- Every move but a block reset is a host access, then a micro-step, then a step of the timer, the clock or the bus
responder, each of them possibly idle (60_exceptions.md R227). -/
theorem stepMove_phases {m : Move} {s t : State} (hm : m ≠ .rst true) (hr : s.rst = false)
    (h : stepMove m s = .next t) : ∃ u v, HostEffect s u ∧ SeqEffect u v ∧ EnvEffect v t := by
  have idle : HostEffect s s := .note rfl (.refl s)
  cases m <;> simp only [stepMove, hr, Bool.or_false, Bool.false_eq_true, if_false] at h
  case host => exact ⟨t, t, hostMove_effect h, .idle rfl, .refl t⟩
  case seq => exact ⟨s, t, idle, seqMove_effect h, .refl t⟩
  case bus => exact ⟨s, s, idle, .idle rfl, (busMove_effect h).2⟩
  case tick =>
    obtain rfl | htick := tickMove_effect h
    · exact ⟨t, t, idle, .idle rfl, .refl t⟩
    · exact ⟨s, s, idle, .idle rfl, .of_tick htick⟩
  case tclk => exact ⟨s, s, idle, .idle rfl, tclkMove_effect h⟩
  case cycle host seq =>
    unfold cycleMove at h
    split at h
    · cases h; exact ⟨s, s, idle, .idle rfl, .refl s⟩
    obtain ⟨v, hv, hedge⟩ := andThen_next h
    obtain ⟨u, hhost, hseq⟩ := andThen_next hv
    refine ⟨u, v, ?_, ?_, cycleEdge_effect hedge⟩
    · split at hhost
      · exact hostMove_effect hhost
      · cases hhost; exact idle
    · split at hseq
      · exact seqMove_effect hseq
      · cases hseq; exact .idle rfl
  case rst asserted =>
    cases asserted with
    | true => exact absurd rfl hm
    | false => cases h; exact ⟨s, s, idle, .idle rfl, .refl s⟩

/-- A predicate that block reset gives, and that a host access, a micro-step and the other agents keep, is kept by every
step, scheduled or free. -/
theorem step_keeps {P : State → Prop} (hsched : ∀ s ms n, P s → P { s with script := ms, draws := n })
    (hreset : ∀ (s : State) b, P { s.blockReset with rst := b }) (hhost : ∀ s t, HostEffect s t → P s → P t)
    (hseq : ∀ s t, SeqEffect s t → P s → P t) (henv : ∀ s t, EnvEffect s t → P s → P t) {s t : State} (hs : P s)
    (h : step s = .next t) : P t := by
  have move (m : Move) (s : State) (hs : P s) (h : stepMove m s = .next t) : P t := by
    by_cases hm : m = .rst true
    · subst hm; cases h; exact hreset s true
    cases hr : s.rst with
    | false =>
      obtain ⟨u, v, hu, hv, ht⟩ := stepMove_phases hm hr h
      exact henv v t ht (hseq u v hv (hhost s u hu hs))
    | true =>
      cases m with
      | rst asserted => simp only [stepMove, hr, Bool.or_true, if_true] at h; cases h; exact hreset s asserted
      | _ => simp only [stepMove, hr, if_true] at h; cases h; exact hs
  unfold step runNext at h
  split at h
  · exact move _ _ (hsched s _ s.draws hs) h
  · exact move _ _ (hsched s s.script _ hs) h

/-- A scheduled step, out of reset and no block reset, as its phases. -/
theorem step_phases {m : Move} {ms : List Move} {s t : State} (hr : s.rst = false) (hs : s.script = m :: ms)
    (hm : m ≠ .rst true) (h : step s = .next t) :
    ∃ u v, HostEffect { s with script := ms } u ∧ SeqEffect u v ∧ EnvEffect v t :=
  stepMove_phases hm hr (step_scheduled hs ▸ h)

end Sys2Proof.Machine
end

section
/-! SUPPORT. The invariants of TXBUF and the reserved fields, of BUSY and SEQ, and of the cursor: each is kept by a host
access, by a micro-step and by the other agents, and so by every step. -/

namespace Sys2Proof.Machine

open Sys2Proof.Safety

/-! ## The forms (R27, R30, R38, R66) -/

/-- Where TXBUF and PROFILE stay and ERR gains flags at most, the forms are kept. -/
theorem formInv_of_grows {s t : State} (hgrows : Grows s t) (hops : t.operands = s.operands) (hs : formInv s) :
    formInv t := by
  obtain ⟨hwf, herr, hprofile⟩ := hs
  obtain ⟨-, profile, -, txbuf, -⟩ := operands_eq_iff.1 hops
  exact ⟨by rwa [txbuf], hgrows.err_high herr, by rwa [profile]⟩

theorem reset_formInv : formInv State.reset := ⟨reset_txbuf_wf, rfl, rfl⟩

theorem clearErrBits_high (err v : Word) : (clearErrBits err v).extractLsb' 8 8 = 0#8 := by
  rw [clearErrBits, BitVec.extractLsb'_and, show (0x00FF#16).extractLsb' 8 8 = 0#8 from rfl, BitVec.and_zero]

theorem HostEffect.formInv {s t : State} (h : HostEffect s t) (hs : formInv s) : formInv t := by
  obtain ⟨hwf, herr, hprofile⟩ := hs
  cases h with
  | note frame grows => exact formInv_of_grows grows (congrArg State.operands frame :) ⟨hwf, herr, hprofile⟩
  | clearErr v e => rw [e]; exact ⟨hwf, clearErrBits_high s.err v, hprofile⟩
  | store idle frame txbuf profile => exact ⟨txbuf hwf, by rwa [frame], profile hprofile⟩
  | accept idle i u command frame => rw [frame]; exact ⟨hwf, herr, hprofile⟩

/-- Settles O52: only the host writes TXBUF and PROFILE, in their forms, and ERR gains flags of its low byte or is masked
to it. -/
theorem everyStepKeepsTheForms : Obligations.EveryStepKeepsTheForms := fun _ _ hs h =>
  step_keeps (P := Safety.formInv) (fun _ _ _ => id) (fun _ _ => reset_formInv) (fun _ _ hhost => hhost.formInv)
    (fun _ _ hseq => formInv_of_grows hseq.grows hseq.operands)
    (fun _ _ henv => formInv_of_grows henv.grows henv.operands) hs h

/-! ## BUSY and SEQ (R21, R22) -/

/-- SEQ ends in a statement that ends the command or places more. -/
def EndsCommand (ms : List Micro) : Prop := ∃ m, ms.getLast? = some m ∧ endsCommand m = true

theorem seqInv_of_busy {s : State} (h : s.busy = true) : seqInv s ↔ EndsCommand s.seq := by
  simp [seqInv, h, EndsCommand]

theorem seqInv_of_idle {s : State} (h : s.busy = false) : seqInv s ↔ s.seq = [] ∧ s.bus = none := by
  simp [seqInv, h]

theorem reset_seqInv : seqInv State.reset := ⟨rfl, rfl⟩

theorem EndsCommand.of_append {ms rest : List Micro} (h : EndsCommand rest) : EndsCommand (ms ++ rest) := by
  obtain ⟨m, hlast, hm⟩ := h
  exact ⟨m, by simp [List.getLast?_append, hlast], hm⟩

/-- Every command's program ends in `BUSY <- 0` or, of SEND, in DISPATCH. -/
theorem commandProgram_endsCommand {i : Instr} (hi : i.isCommand = true) (s : State) :
    EndsCommand (commandProgram i s) := by
  cases i with
  | initChip m => exact .of_append (ms := _ ++ _) ⟨.clearBusy, rfl, rfl⟩
  | closeChip | setFreq | startCarrier | stopCarrier => exact ⟨.clearBusy, rfl, rfl⟩
  | send => exact ⟨.dispatch, rfl, rfl⟩
  | _ => cases hi

/-- A statement but `BUSY <- 0` is replaced in SEQ by the statements it places; one that can be the last of SEQ places
another such. -/
theorem microStep_replaced {m : Micro} {s t : State} (hb : s.busy = true) (hne : m ≠ .clearBusy)
    (h : microStep m s = .next t) : ∃ pre, t.seq = pre ++ s.seq ∧ (endsCommand m = true → EndsCommand pre) := by
  cases m with
  | clearBusy => exact absurd rfl hne
  | dispatch =>
    obtain ⟨body, hbody, rfl⟩ := dispatchStep_cases h
    refine ⟨body, rfl, fun _ => ?_⟩
    simp only [List.mem_cons, List.not_mem_nil, or_false] at hbody
    obtain rfl | rfl | rfl | rfl := hbody <;> exact ⟨_, rfl, rfl⟩
  | processBit =>
    obtain ⟨-, rfl⟩ | ⟨-, ⟨b, rfl⟩ | hmod | rfl⟩ := processBitStep_cases h
    · exact ⟨overrunRest, rfl, fun _ => ⟨.dispatch, rfl, rfl⟩⟩
    · exact ⟨bitBody b, rfl, fun _ => ⟨.dispatch, by cases b <;> rfl, rfl⟩⟩
    · obtain ⟨pre, hseq, -⟩ := (execModulate_effect hmod).placed
      exact ⟨pre ++ afterBit, by rw [hseq, State.before_seq, List.append_assoc],
        fun _ => .of_append ⟨.dispatch, rfl, rfl⟩⟩
    · exact ⟨[.leaveTxProcessing, .dispatch], rfl, fun _ => ⟨.dispatch, rfl, rfl⟩⟩
  | clearBitIndex | setBitTotal | incBitIndex => cases h; exact ⟨[], rfl, nofun⟩
  | _ =>
    obtain ⟨pre, hseq, -⟩ := microStep_placed hb rfl hne h
    exact ⟨pre, hseq, nofun⟩

theorem endsCommand_cons {m : Micro} {rest : List Micro} (h : EndsCommand (m :: rest)) :
    EndsCommand rest ∨ (rest = [] ∧ endsCommand m = true) := by
  obtain ⟨x, hlast, hx⟩ := h
  cases rest with
  | nil => cases hlast; exact .inr ⟨rfl, hx⟩
  | cons y rest => exact .inl ⟨x, by simpa using hlast, hx⟩

theorem SeqEffect.seqInv {s t : State} (h : SeqEffect s t) (hs : seqInv s) : seqInv t := by
  cases h with
  | idle e => rwa [e]
  | runs m rest busy bus seq micro =>
    by_cases hne : m = .clearBusy
    · subst hne; cases micro; exact ⟨rfl, bus⟩
    have htb : t.busy = true := microStep_busy (s := { s with seq := rest }) busy hne micro
    obtain ⟨pre, hseq, hpre⟩ := microStep_replaced (s := { s with seq := rest }) busy hne micro
    rw [seqInv_of_busy busy, seq] at hs
    rw [seqInv_of_busy htb, hseq]
    obtain hrest | ⟨rfl, hm⟩ := endsCommand_cons hs
    · exact hrest.of_append
    · simpa using hpre hm

theorem HostEffect.seqInv {s t : State} (h : HostEffect s t) (hs : seqInv s) : seqInv t := by
  cases h with
  | note frame grows => rw [frame]; exact hs
  | clearErr v e => rw [e]; exact hs
  | store idle frame txbuf profile => rw [frame]; exact hs
  | accept idle i u command frame =>
    rw [frame]
    exact (seqInv_of_busy rfl).2 (commandProgram_endsCommand command u)

theorem EnvEffect.seqInv {s t : State} (h : EnvEffect s t) (hs : seqInv s) : seqInv t := by
  cases hb : s.busy with
  | false =>
    obtain ⟨hseq, hbus⟩ := (seqInv_of_idle hb).1 hs
    exact (seqInv_of_idle (h.busy.trans hb)).2 ⟨h.seq.trans hseq, h.bus hbus⟩
  | true =>
    rw [seqInv_of_busy hb] at hs
    rwa [seqInv_of_busy (h.busy.trans hb), h.seq]

/-- Settles O53: acceptance places a program with an end, a micro-step replaces the head of SEQ and keeps its end, and
`BUSY <- 0` runs with no transaction in flight. -/
theorem everyStepKeepsBusyAndSeqTogether : Obligations.EveryStepKeepsBusyAndSeqTogether := fun _ _ hs h =>
  step_keeps (P := Safety.seqInv) (fun _ _ _ => id) (fun _ _ => reset_seqInv)
    (fun _ _ hhost => hhost.seqInv) (fun _ _ hseq => hseq.seqInv) (fun _ _ henv => henv.seqInv) hs h

/-! ## The cursor (R42) -/

theorem cursorInv_le {s : State} (h : cursorInv s) : s.bitIndex ≤ s.bitTotal := h.2.1

/-- The cursor's invariant speaks of BUSY, of BIT_INDEX and BIT_TOTAL and of the statements of SEQ that they depend on. -/
theorem cursorInv_of_eq {s t : State} (hbusy : t.busy = false → t.seq = []) (hindex : t.bitIndex = s.bitIndex)
    (htotal : t.bitTotal = s.bitTotal) (hseq : t.seq.filter cursorOp = s.seq.filter cursorOp) (hs : cursorInv s) :
    cursorInv t := by
  refine ⟨hbusy, ?_⟩
  rw [hindex, htotal, hseq]
  exact hs.2

theorem reset_cursorInv : cursorInv State.reset := ⟨fun _ => rfl, BitVec.le_refl _, trivial⟩

/-- Statements placed before the rest of SEQ do not matter where none of them is such a statement. -/
theorem cursorInv_of_placed {s t : State} (hb : t.busy = true) (hindex : t.bitIndex = s.bitIndex)
    (htotal : t.bitTotal = s.bitTotal)
    (hseq : ∃ pre, t.seq = pre ++ s.seq ∧ ∀ m ∈ pre, cursorOp m = false) (hs : cursorInv s) : cursorInv t := by
  obtain ⟨pre, hseq, hpre⟩ := hseq
  refine cursorInv_of_eq (by simp [hb]) hindex htotal ?_ hs
  rw [hseq, List.filter_append, List.filter_eq_nil_iff.2 (by simpa using hpre), List.nil_append]

theorem OpEffect.cursorInv {s t : State} (h : OpEffect s t) (hb : s.busy = true) (hs : cursorInv s) : cursorInv t := by
  obtain ⟨⟨frame, -⟩, hplaced⟩ := h
  have hbusy : t.busy = s.busy := (congrArg State.busy frame :)
  exact cursorInv_of_placed (s := s) (hbusy.trans hb) (congrArg State.bitIndex frame :)
    (congrArg State.bitTotal frame :) hplaced hs

/-- Where SEQ stands with such a statement at its head. -/
theorem cursorInv_head {s : State} {m : Micro} {rest : List Micro} (hs : cursorInv s) (hseq : s.seq = m :: rest)
    (hm : cursorOp m = true) :
    (rest.filter cursorOp = [] ∧ (m = .dispatch ∨ m = .processBit)) ∨
    (rest.filter cursorOp = [.setBitTotal, .dispatch] ∧ m = .clearBitIndex) ∨
    (rest.filter cursorOp = [.dispatch] ∧
      (m = .setBitTotal ∧ s.bitIndex = 0#11 ∨ m = .incBitIndex ∧ s.bitIndex < s.bitTotal)) := by
  obtain ⟨-, -, hplace⟩ := hs
  rw [hseq, List.filter_cons_of_pos hm] at hplace
  split at hplace <;> simp_all

/-- The statements of a command's program that the cursor's bounds depend on: SEND's DISPATCH. -/
theorem commandProgram_cursor (i : Instr) (s : State) :
    (commandProgram i s).filter cursorOp = [] ∨ (commandProgram i s).filter cursorOp = [.dispatch] := by
  cases i with
  | initChip m =>
    have htable : (tableWrites (s.modeTable m)).filter cursorOp = [] :=
      List.filter_eq_nil_iff.2 fun x hx => by obtain ⟨e, -, rfl⟩ := List.mem_map.1 hx; simp [cursorOp]
    refine .inl ?_
    simp only [commandProgram, initChipProgram, frontEndWrites, List.filter_append, htable]
    cases m <;> cases s.frontEnd <;> rfl
  | send => exact .inr rfl
  | _ => exact .inl rfl

theorem HostEffect.cursorInv {s t : State} (h : HostEffect s t) (hs : cursorInv s) : cursorInv t := by
  cases h with
  | note frame grows => rw [frame]; exact hs
  | clearErr v e => rw [e]; exact hs
  | store idle frame txbuf profile => rw [frame]; exact hs
  | accept idle i u command frame =>
    rw [frame]
    have hle := cursorInv_le hs
    refine ⟨nofun, hle, ?_⟩
    obtain hprog | hprog := commandProgram_cursor i u <;> rw [hprog] <;> trivial

theorem EnvEffect.cursorInv {s t : State} (h : EnvEffect s t) (hs : cursorInv s) : cursorInv t := by
  rw [h.frame]
  exact hs

theorem cursor_succ_le {i n : BitVec 11} (h : i < n) : i + 1 ≤ n := by bv_omega

/-- A statement that the cursor's bounds depend on leaves SEQ at a place that TXSTART_BODY or TXPROC_BODY allows, with the
bound that belongs to it. -/
theorem microStep_cursor {m : Micro} {s t : State} {rest : List Micro} (hs : cursorInv s) (hb : s.busy = true)
    (hseq : s.seq = m :: rest) (hm : cursorOp m = true) (h : microStep m { s with seq := rest } = .next t) :
    cursorInv t := by
  have hle := cursorInv_le hs
  obtain ⟨hrest, rfl | rfl⟩ | ⟨hrest, rfl⟩ | ⟨hrest, ⟨rfl, hzero⟩ | ⟨rfl, hlt⟩⟩ := cursorInv_head hs hseq hm
  · -- DISPATCH
    obtain ⟨body, hbody, rfl⟩ := dispatchStep_cases h
    simp only [List.mem_cons, List.not_mem_nil, or_false] at hbody
    refine ⟨by simp [hb], hle, ?_⟩
    rw [State.before_seq, List.filter_append, hrest]
    obtain rfl | rfl | rfl | rfl := hbody <;> trivial
  · -- the head of TXPROC_BODY: an overrun, an unwritten byte, a 0 bit, a 1 bit
    obtain ⟨-, rfl⟩ | ⟨hlt, ⟨b, rfl⟩ | hmod | rfl⟩ := processBitStep_cases h
    · refine ⟨by simp [hb], hle, ?_⟩
      rw [State.before_seq, State.raise_seq, List.filter_append, hrest]
      trivial
    · refine ⟨by simp [hb], hle, ?_⟩
      rw [State.before_seq, State.recordFault_seq, List.filter_append, hrest]
      cases b <;> exact hlt
    · refine (execModulate_effect hmod).cursorInv hb ⟨by simp [hb], hle, ?_⟩
      rw [State.before_seq, List.filter_append, hrest]
      exact hlt
    · refine ⟨by simp [hb], cursor_succ_le hlt, ?_⟩
      simp only [State.before_seq, List.filter_append, hrest]
      trivial
  · -- `BIT_INDEX <- 0`
    cases h
    refine ⟨by simp [hb], BitVec.le_def.2 (Nat.zero_le _), ?_⟩
    rw [hrest]
  · -- the write of BIT_TOTAL
    cases h
    refine ⟨by simp [hb], by rw [hzero]; exact BitVec.le_def.2 (Nat.zero_le _), ?_⟩
    rw [hrest]
    trivial
  · -- the increment
    cases h
    refine ⟨by simp [hb], cursor_succ_le hlt, ?_⟩
    rw [hrest]
    trivial

theorem SeqEffect.cursorInv {s t : State} (h : SeqEffect s t) (hs : cursorInv s) : cursorInv t := by
  cases h with
  | idle e => rwa [e]
  | runs m rest busy bus seq micro =>
    have hle := cursorInv_le hs
    by_cases hne : m = .clearBusy
    · subst hne; cases micro; exact ⟨fun _ => rfl, hle, trivial⟩
    cases hm : cursorOp m with
    | true => exact microStep_cursor hs busy seq hm micro
    | false =>
      have hw := (microStep_effect (s := { s with seq := rest }) busy micro).writes
      have hrest : Safety.cursorInv { s with seq := rest } :=
        cursorInv_of_eq (s := s) (by simp [busy]) rfl rfl (by rw [seq, List.filter_cons_of_neg (by simp [hm])]) hs
      refine cursorInv_of_placed (microStep_busy (s := { s with seq := rest }) busy hne micro) ?_ ?_
        (microStep_placed (s := { s with seq := rest }) busy hm hne micro) hrest
      · by_contra hindex
        obtain rfl | rfl | rfl := hw.bitIndex hindex <;> cases hm
      · by_contra htotal
        cases hw.bitTotal htotal
        cases hm

/-- Settles O54: only the five statements that the cursor's bounds depend on write BIT_INDEX or BIT_TOTAL, each within
the bounds of its place, and no other statement places one of them. -/
theorem everyStepKeepsTheCursorInRange : Obligations.EveryStepKeepsTheCursorInRange := fun _ _ hs h =>
  step_keeps (P := Safety.cursorInv) (fun _ _ _ => id) (fun _ _ => reset_cursorInv)
    (fun _ _ hhost => hhost.cursorInv) (fun _ _ hseq => hseq.cursorInv) (fun _ _ henv => henv.cursorInv) hs h

end Sys2Proof.Machine
end

section
/-! SUPPORT. What is never cleared, what BUSY freezes, and who writes each register (10_state.md R22 to R40). -/

namespace Sys2Proof.Machine

open Sys2Proof.Safety

/-- No host access touches HIST or clears a fault. -/
theorem HostEffect.records {s t : State} (h : HostEffect s t) :
    t.hist = s.hist ∧ ∀ f, s.faults.has f = true → t.faults.has f = true := by
  cases h with
  | note frame grows => exact ⟨(congrArg State.hist frame :), grows.faults⟩
  | clearErr v e => rw [e]; exact ⟨rfl, fun _ => id⟩
  | store idle frame txbuf profile => rw [frame]; exact ⟨rfl, fun _ => id⟩
  | accept idle i u command frame => rw [frame]; exact ⟨rfl, fun _ => id⟩

/-- Settles O58: a host access, a micro-step and the other agents each extend HIST and keep every fault. -/
theorem historyAndFaultsAreNeverCleared : Obligations.HistoryAndFaultsAreNeverCleared := by
  refine ⟨fun s t m ms hr hs hm h => ?_, rfl, rfl⟩
  obtain ⟨u, v, hu, hv, ht⟩ := step_phases hr hs hm h
  obtain ⟨hist, faults⟩ := hu.records
  have grows : Grows u t := hv.grows.trans ht.grows
  exact ⟨hist ▸ grows.hist, fun f => grows.faults f ∘ faults f⟩

/-- While a command runs the host writes ERR at most (R65). -/
theorem HostEffect.operands_of_busy {s t : State} (h : HostEffect s t) (hb : s.busy = true) :
    t.operands = s.operands := by
  cases h with
  | note frame grows => exact (congrArg State.operands frame :)
  | clearErr v e => exact (congrArg State.operands e :)
  | store idle frame txbuf profile => cases idle.symm.trans hb
  | accept idle i u command frame => cases idle.symm.trans hb

/-- Settles O59: the host is kept from the operands by BUSY, and no other agent ever writes them. -/
theorem busyFreezesTheOperands : Obligations.BusyFreezesTheOperands := by
  intro s t m ms hr hb hs hm h
  obtain ⟨u, v, hu, hv, ht⟩ := step_phases hr hs hm h
  exact operands_eq_iff.1 (ht.operands.trans (hv.operands.trans (hu.operands_of_busy hb)))

theorem registers_eq_iff {s t : State} : t.registers = s.registers ↔
    t.chipMode = s.chipMode ∧ t.radioState = s.radioState ∧ t.offsetSel = s.offsetSel ∧ t.modCount = s.modCount ∧
    t.freqReg = s.freqReg ∧ t.paEn = s.paEn ∧ t.lnaEn = s.lnaEn ∧ t.rxIrqEn = s.rxIrqEn ∧ t.bitIndex = s.bitIndex ∧
    t.bitTotal = s.bitTotal ∧ t.tmrArmed = s.tmrArmed ∧ t.tmrPeriodL = s.tmrPeriodL := by
  simp [State.registers]

/-- What the move `m` of an agent other than the sequencer may write. -/
structure AgentWrites (m : Move) (s t : State) : Prop where
  registers : t.registers = s.registers
  sysState : t.sysState ≠ s.sysState → t.sysState = .txProcessing ∧ (m = .tick ∨ m = .tclk)
  buffers : t.txbuf ≠ s.txbuf ∨ t.profile ≠ s.profile ∨ t.freq ≠ s.freq → m = .host ∧ s.busy = false
  latches : t.cmd ≠ s.cmd ∨ t.curOp ≠ s.curOp ∨ t.curMode ≠ s.curMode ∨ t.curLen ≠ s.curLen ∨ t.profL ≠ s.profL ∨
    t.freqL ≠ s.freqL → m = .host ∧ s.busy = false ∧ t.busy = true
  busy : t.busy ≠ s.busy → m = .host ∧ t.busy = true
  tmrCount : t.tmrCount ≠ s.tmrCount → m = .tclk
  err : s.err &&& ~~~t.err ≠ 0#16 → m = .host

theorem HostEffect.agentWrites {s t : State} (h : HostEffect s t) : AgentWrites .host s t := by
  cases h with
  | note frame grows => rw [frame]; constructor <;> simp [State.registers]
  | clearErr v e => rw [e]; constructor <;> simp [State.registers]
  | store idle frame txbuf profile => rw [frame]; constructor <;> simp [State.registers, idle]
  | accept idle i u command frame => rw [frame]; constructor <;> simp [State.registers, idle]

/-- The timer, the clock and the bus responder write neither operands nor BUSY, and clear no flag. -/
theorem EnvEffect.agentWrites {m : Move} {s t : State} (h : EnvEffect s t)
    (hsys : t.sysState ≠ s.sysState → m = .tick ∨ m = .tclk) (hcount : t.tmrCount ≠ s.tmrCount → m = .tclk) :
    AgentWrites m s t := by
  obtain ⟨cmd, profile, freq, txbuf, curOp, curMode, curLen, profL, freqL⟩ := operands_eq_iff.1 h.operands
  exact {
    registers := h.registers
    sysState := fun hne => ⟨h.sysState hne, hsys hne⟩
    buffers := by simp [txbuf, profile, freq]
    latches := by simp [cmd, curOp, curMode, curLen, profL, freqL]
    busy := fun hne => absurd h.busy hne
    tmrCount := hcount
    err := fun hne => absurd h.grows.err_kept hne }

theorem stepMove_agentWrites {m : Move} {s t : State} (hr : s.rst = false) (hrst : m ≠ .rst true)
    (hcycle : ∀ h q, m ≠ .cycle h q) (hseq : m ≠ .seq) (h : stepMove m s = .next t) : AgentWrites m s t := by
  cases m <;> simp only [stepMove, hr, Bool.or_false, Bool.false_eq_true, if_false] at h
  case host => exact (hostMove_effect h).agentWrites
  case seq => exact absurd rfl hseq
  case bus =>
    obtain ⟨frame, henv⟩ := busMove_effect h
    exact henv.agentWrites (absurd (congrArg State.sysState frame :)) (absurd (congrArg State.tmrCount frame :))
  case tick =>
    obtain rfl | htick := tickMove_effect h
    · exact (EnvEffect.refl t).agentWrites (absurd rfl) (absurd rfl)
    · exact (EnvEffect.of_tick htick).agentWrites (fun _ => .inl rfl) (absurd (congrArg State.tmrCount htick.frame :))
  case tclk => exact (tclkMove_effect h).agentWrites (fun _ => .inr rfl) (fun _ => rfl)
  case cycle host seq => exact absurd rfl (hcycle host seq)
  case rst asserted =>
    cases asserted with
    | true => exact absurd rfl hrst
    | false => cases h; exact (EnvEffect.refl s).agentWrites (absurd rfl) (absurd rfl)

/-- Settles O60: a micro-step writes what its statement says, and every other move what its agent may. -/
theorem onlyTheNamedWritersWrite : Obligations.OnlyTheNamedWritersWrite := by
  intro s t m ms hr hs hrst hcycle h runs
  rw [step_scheduled hs] at h
  by_cases hm : m = .seq
  · subst hm
    rw [stepMove, if_neg (by simp [hr])] at h
    have hseq := seqMove_effect h
    obtain ⟨cmd, profile, freq, txbuf, curOp, curMode, curLen, profL, freqL⟩ := operands_eq_iff.1 hseq.operands
    cases hseq with
    | idle e => subst e; simp
    | runs x rest busy bus seq micro =>
      have hx := microStep_effect (s := { s with script := ms, seq := rest }) busy micro
      have run {p : Micro → Prop} (hp : p x) : runs p := ⟨rfl, x, rest, seq, hp⟩
      have hw := hx.writes
      exact ⟨fun h => run (hw.radioState h), fun h => run (hw.chipMode h), fun h => run (hw.offsetSel h),
        fun h => run (hw.modCount h), fun h => run (hw.freqReg h), fun h => run (hw.paEn h), fun h => run (hw.lnaEn h),
        fun h => run (hw.rxIrqEn h), fun h => run (hw.bitIndex h), fun h => run (hw.bitTotal h),
        fun h => .inr (run (hw.sysState h)), by simp [txbuf, profile, freq],
        by simp [cmd, curOp, curMode, curLen, profL, freqL], fun h => .inr ((hw.busy h).imp_right run),
        fun h => run (hw.tmrArmed h), fun h => .inr (run (hw.tmrCount h)), fun h => run (hw.tmrPeriodL h),
        absurd hx.grows.err_kept⟩
  · have hw := stepMove_agentWrites (s := { s with script := ms }) hr hrst hcycle hm h
    obtain ⟨chipMode, radioState, offsetSel, modCount, freqReg, paEn, lnaEn, rxIrqEn, bitIndex, bitTotal, tmrArmed,
      tmrPeriodL⟩ := registers_eq_iff.1 hw.registers
    exact ⟨absurd radioState, absurd chipMode, absurd offsetSel, absurd modCount, absurd freqReg, absurd paEn,
      absurd lnaEn, absurd rxIrqEn, absurd bitIndex, absurd bitTotal, fun h => .inl (hw.sysState h), hw.buffers,
      hw.latches, fun h => .inl (hw.busy h), absurd tmrArmed, fun h => .inl (hw.tmrCount h), absurd tmrPeriodL, hw.err⟩

end Sys2Proof.Machine
end

section
/-! SUPPORT. A sequencer step by its micro-operation, STATUS, and the reset state (10_state.md R21, R29, R45). -/

namespace Sys2Proof.Machine

open Sys2Proof.Safety

/-- Settles O6: the micro-step of a call is `exec` of the micro-operation called. -/
theorem stepRunsTheNextMicroOperation : Obligations.StepRunsTheNextMicroOperation :=
  fun _ _ _ _ hr hs hf hq => step_seq hs hr hf hq

/-- The places of R29, on every value of the six fields. -/
theorem statusWord_layout : ∀ (sel armed mode : BitVec 1) (chip : BitVec 2) (sys : BitVec 3) (busy : BitVec 1),
    let w : Word := 0#7 ++ sel ++ armed ++ mode ++ chip ++ sys ++ busy
    w.getLsbD 0 = busy.getLsbD 0 ∧ w.extractLsb' 1 3 = sys ∧ w.extractLsb' 4 2 = chip ∧
    w.getLsbD 6 = mode.getLsbD 0 ∧ w.getLsbD 7 = armed.getLsbD 0 ∧ w.getLsbD 8 = sel.getLsbD 0 ∧
    w.extractLsb' 9 7 = 0#7 := by decide

theorem getLsbD_bitOfMode (m : RadioMode) : (bitOfMode m).getLsbD 0 = decide (m = .rx) := by
  cases m <;> rfl

theorem memWrite_status {s : State} (hb : s.busy = false) (v : Word) : memWrite 0x002#9 .w16 v s = .next s := by
  simp [memWrite, legalAccess, locate, writeReg, hb]

/-- Settles O41: STATUS is its six fields side by side, and its offset is that of a read-only register. -/
theorem statusShowsEveryField : Obligations.StatusShowsEveryField := by
  intro s w
  obtain ⟨busy, sys, chip, mode, armed, sel, reserved⟩ := statusWord_layout (BitVec.ofBool s.offsetSel)
    (BitVec.ofBool s.tmrArmed) (bitOfMode s.radioState) s.chipMode.bits s.sysState.bits (BitVec.ofBool s.busy)
  rw [getLsbD_bitOfMode] at mode
  simp only [BitVec.getLsbD_ofBool, decide_true, Bool.true_and] at busy armed sel
  exact ⟨busy, sys, chip, mode, armed, sel, reserved, fun v hb => memWrite_status hb v⟩

/-- Settles O50: `State.reset` is written with these values, and an empty TXBUF holds no byte. -/
theorem resetLeavesTheValuesOfR45 : Obligations.ResetLeavesTheValuesOfR45 := by
  simp [Obligations.ResetLeavesTheValuesOfR45, State.reset, Memory.read]

/-- At reset CHIP_MODE is UNINIT, and no statement is to run. -/
theorem reset_modeInv : modeInv State.reset := ⟨fun _ => rfl, ⟨nofun, nofun⟩, nofun, List.not_mem_nil⟩

/-- Settles O56: each invariant at reset. -/
theorem resetMeetsTheInvariants : Obligations.ResetMeetsTheInvariants :=
  ⟨reset_formInv, reset_seqInv, reset_cursorInv, reset_modeInv⟩

end Sys2Proof.Machine
end

section
/-! SUPPORT. The host port by the location of an access (20_memory.md R62 to R66): the offsets of the registers and of
TXBUF, which accesses are legal, and what a read and a write do at each kind of location. -/

namespace Sys2Proof.Machine

/-! ## The register map (R62) -/

/-- The offset of a register (R62), the inverse of `locate`. -/
def HostReg.offset : HostReg → Offset
  | .cmd => 0x000#9
  | .status => 0x002#9
  | .err => 0x004#9
  | .profile => 0x006#9
  | .freqLo => 0x008#9
  | .freqHi => 0x00A#9
  | .bitIndex => 0x00C#9
  | .bitTotal => 0x00E#9
  | .feOut => 0x010#9
  | .freqRegLo => 0x012#9
  | .freqRegHi => 0x014#9
  | .modCount => 0x016#9
  | .tmrCount => 0x018#9

@[simp] theorem locate_offset (r : HostReg) : locate r.offset = .reg r := by
  cases r <;> rfl

/-- The offset of TXBUF[k] (R62). -/
def txOffset (k : Nat) : Offset := BitVec.ofNat 9 (0x100 + k)

theorem txOffset_toNat {k : Nat} (hk : k ≤ 255) : (txOffset k).toNat = 0x100 + k := by
  simp only [txOffset, BitVec.toNat_ofNat]
  omega

theorem txOffset_succ (k : Nat) : txOffset k + 1 = txOffset (k + 1) := (BitVec.ofNat_add (0x100 + k) 1).symm

/-- Past the last register there is TXBUF, and nothing else. -/
theorem locate_of_ge {off : Offset} (h : 0x01A ≤ off.toNat) :
    locate off = if 0x100 ≤ off.toNat ∧ off.toNat ≤ 0x1FE then .txbuf (off.toNat - 0x100) else .reserved := by
  unfold locate
  split
  case h_14 => rfl
  all_goals omega

theorem locate_txOffset {k : Nat} (hk : k ≤ 254) : locate (txOffset k) = .txbuf k := by
  have hoff := txOffset_toNat (Nat.le_succ_of_le hk)
  rw [locate_of_ge (by omega), if_pos (by omega), hoff, Nat.add_sub_cancel_left]

theorem locate_reserved {off : Offset} (h : 0x01A ≤ off.toNat) (h' : off.toNat < 0x100) : locate off = .reserved := by
  rw [locate_of_ge h, if_neg (by omega)]

/-! ## Legal accesses (R64) -/

theorem legalAccess_iff {off : Offset} {w : Width} :
    legalAccess off w = true ↔ (w = .w8 ∧ 0x100 ≤ off.toNat ∨ w = .w16 ∧ off.toNat % 2 = 0) := by
  cases w <;> simp [legalAccess]

theorem legalAccess_eq_false_iff {off : Offset} {w : Width} :
    legalAccess off w = false ↔ (w = .w8 ∧ off.toNat < 0x100 ∨ w = .w16 ∧ off.toNat % 2 = 1) := by
  cases w <;> simp [legalAccess]

@[simp] theorem legalAccess_offset (r : HostReg) : legalAccess r.offset .w16 = true := by
  cases r <;> rfl

theorem legalAccess_txOffset_byte {k : Nat} (hk : k ≤ 254) : legalAccess (txOffset k) .w8 = true :=
  legalAccess_iff.2 (.inl ⟨rfl, by rw [txOffset_toNat (Nat.le_succ_of_le hk)]; exact Nat.le_add_right ..⟩)

theorem legalAccess_txOffset_word {k : Nat} (hk : k ≤ 127) : legalAccess (txOffset (2 * k)) .w16 = true :=
  legalAccess_iff.2 (.inr ⟨rfl, by rw [txOffset_toNat (by omega)]; omega⟩)

variable {off : Offset} {w : Width} {s : State}

/-! ## Reads -/

theorem memRead_illegal (h : legalAccess off w = false) : memRead off w s = { s.raise .access with rdata := 0#16 } := by
  simp [memRead, h]

theorem memRead_legal (h : legalAccess off w = true) :
    memRead off w s = { (readValue off w s).2 with rdata := (readValue off w s).1 } := by
  simp [memRead, h]

theorem memRead_reg {r : HostReg} (h : legalAccess off w = true) (hl : locate off = .reg r) :
    memRead off w s = { s with rdata := readReg s r } := by
  simp [memRead_legal h, readValue, hl]

theorem memRead_offset (r : HostReg) (s : State) : memRead r.offset .w16 s = { s with rdata := readReg s r } :=
  memRead_reg (legalAccess_offset r) (locate_offset r)

theorem memRead_reserved (h : legalAccess off w = true) (hl : locate off = .reserved) :
    memRead off w s = { s with rdata := 0#16 } := by
  simp [memRead_legal h, readValue, hl]

theorem memRead_txbuf_byte {k : Nat} (h : legalAccess off .w8 = true) (hl : locate off = .txbuf k) :
    memRead off .w8 s = { (readTx k s).2 with rdata := (readTx k s).1.setWidth 16 } := by
  simp [memRead_legal h, readValue, hl]

theorem memRead_txbuf_word {k : Nat} (h : legalAccess off .w16 = true) (hl : locate off = .txbuf k) :
    memRead off .w16 s =
      { (readTxByteAt (off + 1) (readTx k s).2).2 with
        rdata := (readTxByteAt (off + 1) (readTx k s).2).1 ++ (readTx k s).1 } := by
  simp [memRead_legal h, readValue, hl]

theorem readTxByteAt_txOffset {k : Nat} (hk : k ≤ 254) (s : State) : readTxByteAt (txOffset k) s = readTx k s := by
  simp [readTxByteAt, locate_txOffset hk]

/-- The byte 0x1FF is reserved (R66). -/
theorem readTxByteAt_reserved (s : State) : readTxByteAt (txOffset 255) s = (0#8, s) := rfl

/-- A legal read raises nothing. -/
theorem memRead_err (h : legalAccess off w = true) : (memRead off w s).err = s.err := by
  rw [memRead_legal h]
  obtain e | e := readValue_state off w s <;> rw [e]
  rfl

/-! ## Writes (R65, R69) -/

variable {v : Word}

theorem memWrite_illegal (h : legalAccess off w = false) : memWrite off w v s = .next (s.raise .access) := by
  simp [memWrite, h]

theorem memWrite_busy (h : legalAccess off w = true) (hb : s.busy = true) (hoff : off ≠ 0x004#9) :
    memWrite off w v s = .next (s.raise .busyWrite) := by
  simp [memWrite, h, hb, hoff]

theorem memWrite_reg {r : HostReg} (h : legalAccess off w = true) (hl : locate off = .reg r) (hb : s.busy = false) :
    memWrite off w v s = writeReg r v s := by
  simp [memWrite, h, hl, hb]

theorem memWrite_offset (r : HostReg) (v : Word) (hb : s.busy = false) : memWrite r.offset .w16 v s = writeReg r v s :=
  memWrite_reg (legalAccess_offset r) (locate_offset r) hb

theorem memWrite_reserved (h : legalAccess off w = true) (hl : locate off = .reserved) (hb : s.busy = false) :
    memWrite off w v s = .next s := by
  simp [memWrite, h, hl, hb]

theorem memWrite_txbuf_byte {k : Nat} (h : legalAccess off .w8 = true) (hl : locate off = .txbuf k)
    (hb : s.busy = false) : memWrite off .w8 v s = .next (writeTx k (v.extractLsb' 0 8) s) := by
  simp [memWrite, h, hl, hb]

theorem memWrite_txbuf_word {k : Nat} (h : legalAccess off .w16 = true) (hl : locate off = .txbuf k)
    (hb : s.busy = false) :
    memWrite off .w16 v s =
      .next (writeTxByteAt (off + 1) (v.extractLsb' 8 8) (writeTx k (v.extractLsb' 0 8) s)) := by
  simp [memWrite, h, hl, hb]

theorem writeTxByteAt_txOffset {k : Nat} (hk : k ≤ 254) (b : Byte) (s : State) :
    writeTxByteAt (txOffset k) b s = writeTx k b s := by
  simp [writeTxByteAt, locate_txOffset hk]

/-- The byte 0x1FF is reserved (R66). -/
theorem writeTxByteAt_reserved (b : Byte) (s : State) : writeTxByteAt (txOffset 255) b s = s := rfl

/-- A legal write is dropped with E_BUSY_WRITE, writes a register, or changes TXBUF at most. -/
theorem memWrite_legal_cases {t : State} (hleg : legalAccess off w = true) (h : memWrite off w v s = .next t) :
    t = s.raise .busyWrite ∨ (∃ r, writeReg r v s = .next t) ∨ t = { s with txbuf := t.txbuf } := by
  unfold memWrite at h
  rw [hleg, if_neg (by simp)] at h
  split at h
  · cases h; exact .inl rfl
  split at h
  next r _ => exact .inr (.inl ⟨r, h⟩)
  all_goals cases h; refine .inr (.inr ?_)
  · rfl
  · rfl
  · rw [writeTxByteAt_frame]; rfl

end Sys2Proof.Machine
end

section
/-! SUPPORT. The host window in TXBUF, FREQ and FREQ_REG (20_memory.md R63). -/

namespace Sys2Proof.Machine

theorem setWidth_byte (b : Byte) : b.setWidth 16 = 0#8 ++ b := BitVec.setWidth_eq_append (by decide)

variable {s t : State} {v : Word} {k : Nat}

/-! ## TXBUF (R63, R66) -/

theorem memWrite_txOffset_byte (hk : k ≤ 254) (hb : s.busy = false) :
    memWrite (txOffset k) .w8 v s = .next (writeTx k (v.extractLsb' 0 8) s) :=
  memWrite_txbuf_byte (legalAccess_txOffset_byte hk) (locate_txOffset hk) hb

theorem memWrite_txOffset_word (hk : k ≤ 126) (hb : s.busy = false) :
    memWrite (txOffset (2 * k)) .w16 v s =
      .next (writeTx (2 * k + 1) (v.extractLsb' 8 8) (writeTx (2 * k) (v.extractLsb' 0 8) s)) := by
  rw [memWrite_txbuf_word (legalAccess_txOffset_word (by omega)) (locate_txOffset (by omega)) hb, txOffset_succ,
    writeTxByteAt_txOffset (by omega)]

/-- The high byte of a word at the last even offset falls on 0x1FF, which is reserved. -/
theorem memWrite_lastWord (hb : s.busy = false) :
    memWrite (txOffset 254) .w16 v s = .next (writeTx 254 (v.extractLsb' 0 8) s) := by
  rw [memWrite_txbuf_word (legalAccess_txOffset_word (k := 127) le_rfl) (locate_txOffset le_rfl) hb, txOffset_succ,
    writeTxByteAt_reserved]

theorem memRead_txOffset_byte {b : Byte} (hk : k ≤ 254) (h : t.txbuf.read k = some b) :
    memRead (txOffset k) .w8 t = { t with rdata := 0#8 ++ b } := by
  rw [memRead_txbuf_byte (legalAccess_txOffset_byte hk) (locate_txOffset hk), readTx_of_some h, setWidth_byte]

theorem memRead_txOffset_word {lo hi : Byte} (hk : k ≤ 126) (hlo : t.txbuf.read (2 * k) = some lo)
    (hhi : t.txbuf.read (2 * k + 1) = some hi) : memRead (txOffset (2 * k)) .w16 t = { t with rdata := hi ++ lo } := by
  rw [memRead_txbuf_word (legalAccess_txOffset_word (by omega)) (locate_txOffset (by omega)), txOffset_succ,
    readTxByteAt_txOffset (by omega), readTx_of_some hlo, readTx_of_some hhi]

theorem memRead_lastWord {lo : Byte} (hlo : t.txbuf.read 254 = some lo) :
    memRead (txOffset 254) .w16 t = { t with rdata := 0#8 ++ lo } := by
  rw [memRead_txbuf_word (legalAccess_txOffset_word (k := 127) le_rfl) (locate_txOffset le_rfl), txOffset_succ,
    readTxByteAt_reserved, readTx_of_some hlo]

/-- A written byte is read back, and every other byte stays. -/
theorem writeTx_read_same (k : Nat) (b : Byte) (s : State) : (writeTx k b s).txbuf.read k = some b :=
  Memory.read_write_same s.txbuf k b

theorem writeTx_read_other {j : Nat} (h : j ≠ k) (b : Byte) (s : State) :
    (writeTx k b s).txbuf.read j = s.txbuf.read j :=
  Memory.read_write_other s.txbuf b h

/-! ## FREQ_REG -/

theorem freqReg_halves (s : State) : readReg s .freqRegHi ++ readReg s .freqRegLo = (0#8 ++ s.freqReg : BitVec 32) :=
  calc (s.freqReg.extractLsb' 16 8).setWidth 16 ++ s.freqReg.extractLsb' 0 16
      = (0#8 ++ s.freqReg.extractLsb' 16 8) ++ s.freqReg.extractLsb' 0 16 := by rw [setWidth_byte]
    _ = 0#8 ++ (s.freqReg.extractLsb' 16 8 ++ s.freqReg.extractLsb' 0 16) := BitVec.append_assoc
    _ = 0#8 ++ s.freqReg := by rw [BitVec.extractLsb'_append_extractLsb' (w := 8) (len := 16)]

/-- Settles O46: a word in TXBUF is two byte writes, low byte first, of which the one at 0x1FF is ignored; each byte
written is read back and no other one changes. FREQ and FREQ_REG are registers of two halves. -/
theorem hostWindowIsLittleEndian : Obligations.HostWindowIsLittleEndian := by
  intro s v hb
  refine ⟨fun k hk => ?word, ?last, fun k hk => ?byte, memWrite_offset .freqLo v hb, memWrite_offset .freqHi v hb,
    ?freqReg⟩
  case word =>
    have hlo := (writeTx_read_other (Nat.succ_ne_self (2 * k)).symm (v.extractLsb' 8 8) _).trans
      (writeTx_read_same (2 * k) (v.extractLsb' 0 8) s)
    have hhi := writeTx_read_same (2 * k + 1) (v.extractLsb' 8 8) (writeTx (2 * k) (v.extractLsb' 0 8) s)
    refine ⟨_, memWrite_txOffset_word hk hb, rfl, hlo, hhi, fun j hj hj' => ?_, ?_⟩
    · exact (writeTx_read_other hj' _ _).trans (writeTx_read_other hj _ s)
    · exact (memRead_txOffset_word hk hlo hhi).trans
        (by rw [BitVec.extractLsb'_append_extractLsb' (w := 8) (len := 8)])
  case last =>
    have hlo := writeTx_read_same 254 (v.extractLsb' 0 8) s
    exact ⟨_, memWrite_lastWord hb, rfl, hlo, fun j hj => writeTx_read_other hj _ s, memRead_lastWord hlo⟩
  case byte =>
    have hbyte := writeTx_read_same k (v.extractLsb' 0 8) s
    exact ⟨_, memWrite_txOffset_byte hk hb, rfl, hbyte, fun j hj => writeTx_read_other hj _ s,
      memRead_txOffset_byte hk hbyte⟩
  case freqReg =>
    rw [show memRead 0x014#9 .w16 s = _ from memRead_offset .freqRegHi s,
      show memRead 0x012#9 .w16 s = _ from memRead_offset .freqRegLo s]
    exact freqReg_halves s

end Sys2Proof.Machine
end

section
/-! SUPPORT. A transaction in flight (20_memory.md R77). -/

namespace Sys2Proof.Machine

variable {s : State}

/-- While a transaction is in flight another one waits at the head of SEQ. -/
theorem busIssue_waits (t : BusTxn) (h : s.bus ≠ none) : busIssue t s = .next (s.before [.op t.instr]) :=
  if_pos (Option.isSome_iff_ne_none.2 h)

theorem execBusWrite_of_ne_nil {bs : List Byte} (h : bs ≠ []) (a : RadioAddr) (s : State) :
    execBusWrite a bs s = busIssue (.write a bs) s := by
  simp [execBusWrite, h]

theorem seqMove_waits (h : s.bus ≠ none) : seqMove s = .next s :=
  seqMove_stutters (Bool.eq_false_iff.2 fun hfree => h (sequencerFree_iff.1 hfree).2.1)

/-- Settles O12: both transactions wait, and the sequencer is not free; while `rst` is asserted it has no step
anyway (70_reset_and_hazards.md R260). -/
theorem oneTransactionAtATime : Obligations.OneTransactionAtATime := by
  intro s hbus
  refine ⟨fun c => busIssue_waits (.strobe c) hbus, fun a bs hbs => ?_, fun ms hs => ?_⟩
  · exact (execBusWrite_of_ne_nil hbs a s).trans (busIssue_waits (.write a bs) hbus)
  · rw [step_scheduled hs, stepMove, seqMove_waits (s := { s with script := ms }) hbus, ite_self]

end Sys2Proof.Machine
end

section
/-! SUPPORT. What a host read returns, and that a second one returns the same (20_memory.md R62, R67). -/

namespace Sys2Proof.Machine

/-! ## Reads and the port's read data -/

/-- The value of the last read has no part in the next one. -/
theorem readTx_rdata (k : Nat) (s : State) (x : Word) :
    readTx k { s with rdata := x } = ((readTx k s).1, { (readTx k s).2 with rdata := x }) := by
  cases h : s.txbuf.read k <;> simp [readTx, h, State.recordFault]

theorem readTxByteAt_rdata (off : Offset) (s : State) (x : Word) :
    readTxByteAt off { s with rdata := x } = ((readTxByteAt off s).1, { (readTxByteAt off s).2 with rdata := x }) := by
  unfold readTxByteAt
  split
  · exact readTx_rdata _ s x
  · rfl
  · rfl

theorem readReg_rdata (r : HostReg) (s : State) (x : Word) : readReg { s with rdata := x } r = readReg s r := by
  cases r <;> rfl

/-! ## Reading again -/

theorem readTxByteAt_again (off : Offset) (s : State) :
    readTxByteAt off (readTxByteAt off s).2 = readTxByteAt off s := by
  unfold readTxByteAt
  split
  · exact readTx_again _ s
  · rfl
  · rfl

/-- A read byte answers the same after a read of any other one, which can record no new fault. -/
theorem readTx_after_readTx (j k : Nat) (s : State) :
    readTx k (readTx j (readTx k s).2).2 = ((readTx k s).1, (readTx j (readTx k s).2).2) := by
  cases hj : s.txbuf.read j <;> cases hk : s.txbuf.read k <;> simp [readTx, hj, hk, State.recordFault, FaultSet.add]

theorem readTx_after_readTxByteAt (off : Offset) (k : Nat) (s : State) :
    readTx k (readTxByteAt off (readTx k s).2).2 = ((readTx k s).1, (readTxByteAt off (readTx k s).2).2) := by
  unfold readTxByteAt
  split
  · exact readTx_after_readTx _ k s
  · exact readTx_again k s
  · exact readTx_again k s

theorem raise_raise (s : State) (e : ErrFlag) : (s.raise e).raise e = s.raise e := by
  simp [State.raise, BitVec.or_assoc]

/-- Every read is idempotent (R67): an illegal one raises a flag that is set by then, and a read of TXBUF meets the same
bytes. -/
theorem memRead_again (off : Offset) (w : Width) (s : State) : memRead off w (memRead off w s) = memRead off w s := by
  cases hleg : legalAccess off w
  case false =>
    rw [memRead_illegal hleg, memRead_illegal hleg]
    exact congrArg (fun u : State => { u with rdata := 0#16 }) (raise_raise s .access)
  cases hl : locate off with
  | reg r => simp only [memRead_reg hleg hl, readReg_rdata]
  | reserved => simp only [memRead_reserved hleg hl]
  | txbuf k =>
    cases w with
    | w8 => simp only [memRead_txbuf_byte hleg hl, readTx_rdata, readTx_again]
    | w16 =>
      simp only [memRead_txbuf_word hleg hl, readTx_rdata, readTxByteAt_rdata, readTx_after_readTxByteAt,
        readTxByteAt_again]

/-- Settles O42: each register at its offset, and reading again. -/
theorem hostReadReturnsTheNamedRegister : Obligations.HostReadReturnsTheNamedRegister := by
  intro s
  refine ⟨memRead_offset .cmd s, memRead_offset .err s, memRead_offset .profile s, memRead_offset .freqLo s,
    memRead_offset .freqHi s, memRead_offset .bitIndex s, memRead_offset .bitTotal s, memRead_offset .feOut s,
    memRead_offset .freqRegLo s, (memRead_offset .freqRegHi s).trans ?_, memRead_offset .modCount s,
    memRead_offset .tmrCount s, fun off w => memRead_again off w s⟩
  rw [readReg, setWidth_byte]

end Sys2Proof.Machine
end

section
/-! SUPPORT. Illegal accesses, writes while BUSY = 1, and reserved and read-only locations (20_memory.md R64 to R66). -/

namespace Sys2Proof.Machine

/-! ## E_ACCESS (R64) -/

/-- No other flag shares the bit of E_ACCESS. -/
theorem ErrFlag.bit_accessBit {e : ErrFlag} (he : e ≠ .access) : e.bit.getLsbD 6 = false := by
  cases e with
  | access => exact absurd rfl he
  | _ => rfl

theorem raise_accessBit (e : ErrFlag) (he : e ≠ .access) (s : State) :
    (s.raise e).err.getLsbD 6 = s.err.getLsbD 6 := by
  rw [State.raise_err, BitVec.getLsbD_or, ErrFlag.bit_accessBit he, Bool.or_false]

theorem presentCommand_accessBit {w : Word} {s t : State} (h : presentCommand w s = .next t) :
    t.err.getLsbD 6 = s.err.getLsbD 6 := by
  unfold presentCommand at h
  split at h
  next => cases h; exact raise_accessBit .illegalOp nofun s
  next i hi =>
    obtain ⟨u, hu⟩ := exec_command (decodeWord_isCommand hi) s
    obtain ⟨-, e⟩ | ⟨-, -, e⟩ | ⟨-, -, e⟩ := present_cases i u (commandProgram i) s <;>
      cases e.symm.trans (hu.symm.trans h)
    · exact raise_accessBit .busyWrite nofun s
    · exact raise_accessBit .mode nofun s
    · rfl

/-- A write of ERR may clear E_ACCESS; no write of a register raises it. -/
theorem writeReg_accessBit {r : HostReg} {v : Word} {s t : State} (h : writeReg r v s = .next t)
    (ht : t.err.getLsbD 6 = true) : s.err.getLsbD 6 = true := by
  cases r with
  | cmd => rwa [presentCommand_accessBit h] at ht
  | err =>
    cases h
    simp only [clearErrBits, BitVec.getLsbD_and, Bool.and_eq_true] at ht
    exact ht.1.1
  | _ => cases h; exact ht

theorem memWrite_accessBit {off : Offset} {w : Width} {v : Word} {s t : State} (hleg : legalAccess off w = true)
    (h : memWrite off w v s = .next t) (ht : t.err.getLsbD 6 = true) : s.err.getLsbD 6 = true := by
  obtain rfl | ⟨r, hr⟩ | e := memWrite_legal_cases hleg h
  · rwa [raise_accessBit .busyWrite nofun] at ht
  · exact writeReg_accessBit hr ht
  · rwa [e] at ht

/-- Settles O43: the refusal is the first branch of both accesses, and a legal access raises other flags at most. -/
theorem illegalAccessIsRefused : Obligations.IllegalAccessIsRefused := by
  intro s off w v
  refine ⟨fun h => ?_, fun h => ?_⟩
  · have hill := legalAccess_eq_false_iff.2 h
    exact ⟨memWrite_illegal hill, memRead_illegal hill⟩
  · have hleg := legalAccess_iff.2 h
    exact ⟨fun t => memWrite_accessBit hleg, memRead_err hleg⟩

/-- Settles O44: BUSY is tested before the location, for every offset but that of ERR. -/
theorem busyWriteIsDroppedAndErrIsWriteOneToClear : Obligations.BusyWriteIsDroppedAndErrIsWriteOneToClear := by
  intro s off w v
  refine ⟨fun hb h => ?_, memWrite_err v s⟩
  have hleg := legalAccess_iff.2 h
  exact ⟨memWrite_busy hleg hb, memRead_err hleg⟩

/-! ## Reserved and read-only locations (R66) -/

/-- The registers that R62 gives the host to read only. -/
def readOnlyRegisters : List HostReg :=
  [.status, .bitIndex, .bitTotal, .feOut, .freqRegLo, .freqRegHi, .modCount, .tmrCount]

theorem writeReg_readOnly {r : HostReg} (hr : r ∈ readOnlyRegisters) (v : Word) (s : State) :
    writeReg r v s = .next s := by
  cases r with
  | cmd | err | profile | freqLo | freqHi => simp [readOnlyRegisters] at hr
  | _ => rfl

theorem memWrite_readOnly {r : HostReg} (hr : r ∈ readOnlyRegisters) (v : Word) {s : State} (hb : s.busy = false) :
    memWrite r.offset .w16 v s = .next s :=
  (memWrite_offset r v hb).trans (writeReg_readOnly hr v s)

theorem feOutWord_reserved (s : State) : s.feOutWord.extractLsb' 3 13 = 0#13 := by
  unfold State.feOutWord
  repeat rw [BitVec.extractLsb'_append_eq_of_le (by decide)]
  exact BitVec.extractLsb'_eq_self

theorem freqRegHi_reserved (s : State) : (readReg s .freqRegHi).extractLsb' 8 8 = 0#8 := by
  rw [readReg, setWidth_byte, BitVec.extractLsb'_append_eq_left]

/-- Settles O45: the reserved and read-only locations by the register map, the reserved fields by the layout of their
words, and those of ERR and PROFILE by the invariant of the forms. -/
theorem reservedAndReadOnlyLocations : Obligations.ReservedAndReadOnlyLocations := by
  intro s v
  refine ⟨fun off hlo hhi heven => ?_, ?_, fun off hoff hb => ?_, ⟨?_, feOutWord_reserved s, freqRegHi_reserved s⟩,
    fun ⟨_, herr, hprofile⟩ => ⟨herr, hprofile⟩, fun hb => ?_⟩
  · have hleg : legalAccess off .w16 = true := legalAccess_iff.2 (.inr ⟨rfl, heven⟩)
    have hloc := locate_reserved hlo hhi
    exact ⟨memRead_reserved hleg hloc, memWrite_reserved hleg hloc⟩
  · exact ⟨memRead_reserved rfl rfl, memWrite_reserved rfl rfl⟩
  · obtain ⟨r, hr, rfl⟩ := List.mem_map.1 (show off ∈ readOnlyRegisters.map HostReg.offset from hoff)
    exact memWrite_readOnly hr v hb
  · obtain ⟨-, -, -, -, -, -, hreserved, -⟩ := statusShowsEveryField s
    exact hreserved
  · refine (memWrite_offset .profile v hb).trans ?_
    rw [writeReg, BitVec.setWidth_eq_append (by decide)]
    rfl

end Sys2Proof.Machine
end

section
/-! SUPPORT. The command word by its fields: decoder and encoder agree, and the legal words (30_encoding.md R91 to
R94). -/

namespace Sys2Proof

variable {w : Word} {i j : Instr} {len : Byte} {mode : BitVec 1} {op : BitVec 4} {n : Nat}

/-! ## The fields (R91) -/

@[simp] theorem opField_cmd16 : opField (cmd16 len mode op) = op := BitVec.extractLsb'_append_eq_right

@[simp] theorem modeField_cmd16 : modeField (cmd16 len mode op) = mode :=
  (BitVec.extractLsb'_append_eq_of_le (by decide)).trans BitVec.extractLsb'_append_eq_right

@[simp] theorem rsvField_cmd16 : rsvField (cmd16 len mode op) = 0#3 :=
  (BitVec.extractLsb'_append_eq_of_le (by decide)).trans <|
    (BitVec.extractLsb'_append_eq_of_le (by decide)).trans BitVec.extractLsb'_append_eq_right

@[simp] theorem lenField_cmd16 : lenField (cmd16 len mode op) = len :=
  (BitVec.extractLsb'_append_eq_of_le (by decide)).trans <|
    (BitVec.extractLsb'_append_eq_of_le (by decide)).trans BitVec.extractLsb'_append_eq_left

theorem opField_of_toNat (h : (opField w).toNat = n) : opField w = BitVec.ofNat 4 n := by
  rw [← h, BitVec.ofNat_toNat, BitVec.setWidth_eq]

/-- A word is its four fields side by side. -/
theorem fields_append (w : Word) : lenField w ++ rsvField w ++ modeField w ++ opField w = w := by
  unfold lenField rsvField modeField opField
  rw [BitVec.extractLsb'_append_extractLsb'_eq_extractLsb' (by rfl),
    BitVec.extractLsb'_append_extractLsb'_eq_extractLsb' (by rfl),
    BitVec.extractLsb'_append_extractLsb'_eq_extractLsb' (by rfl)]
  exact BitVec.extractLsb'_eq_self

theorem eq_iff_fields {v : Word} : w = v ↔
    lenField w = lenField v ∧ rsvField w = rsvField v ∧ modeField w = modeField v ∧ opField w = opField v := by
  refine ⟨fun h => h ▸ ⟨rfl, rfl, rfl, rfl⟩, fun ⟨hlen, hrsv, hmode, hop⟩ => ?_⟩
  rw [← fields_append w, hlen, hrsv, hmode, hop, fields_append]

theorem eq_cmd16_iff :
    w = cmd16 len mode op ↔ lenField w = len ∧ rsvField w = 0#3 ∧ modeField w = mode ∧ opField w = op := by
  simp [eq_iff_fields]

/-! ## Decoder and encoder (R92, R93) -/

@[simp] theorem modeOfBit_bitOfMode (m : RadioMode) : modeOfBit (bitOfMode m) = m := by cases m <;> rfl

@[simp] theorem bitOfMode_modeOfBit (b : BitVec 1) : bitOfMode (modeOfBit b) = b := by
  obtain rfl | rfl := BitVec.eq_zero_or_eq_one b <;> rfl

/-- INIT_CHIP fixes every field but MODE. -/
theorem encode_initChip_of_fields (hlen : lenField w = 0#8) (hrsv : rsvField w = 0#3) (hop : opField w = 1#4) :
    encode (.initChip (modeOfBit (modeField w))) = some w := by
  rw [encode, bitOfMode_modeOfBit, ← eq_cmd16_iff.2 ⟨hlen, hrsv, rfl, hop⟩]

/-- SEND fixes every field but LEN. -/
theorem encode_send_of_fields (hrsv : rsvField w = 0#3) (hmode : modeField w = 0#1) (hop : opField w = 4#4) :
    encode (.send (lenField w)) = some w := by
  rw [encode, ← eq_cmd16_iff.2 ⟨rfl, hrsv, hmode, hop⟩]

/-- A command without operands is decoded from the word whose other fields are 0. -/
theorem decodePlain_eq_ok (hrsv : rsvField w = 0#3) (hop : opField w = op) (h : decodePlain w i = .ok j) :
    i = j ∧ w = cmd16 0#8 0#1 op := by
  unfold decodePlain at h
  split at h
  · cases h
  next hmode =>
  split at h
  · cases h
  next hlen =>
  cases h
  exact ⟨rfl, eq_cmd16_iff.2 ⟨not_not.1 hlen, hrsv, not_not.1 hmode, hop⟩⟩

theorem encode_of_decodeWord (h : decodeWord w = .ok i) : encode i = some w := by
  unfold decodeWord at h
  split at h
  · cases h
  next hrsv =>
  rw [not_not] at hrsv
  split at h
  case h_1 hop =>
    split at h <;> cases h
    next hlen => exact encode_initChip_of_fields (not_not.1 hlen) hrsv (opField_of_toNat hop)
  case h_4 hop =>
    split at h <;> cases h
    next hmode => exact encode_send_of_fields hrsv (not_not.1 hmode) (opField_of_toNat hop)
  case h_7 => cases h
  all_goals
    next hop =>
    obtain ⟨rfl, hw⟩ := decodePlain_eq_ok hrsv (opField_of_toNat hop) h
    exact congrArg some hw.symm

theorem decodeWord_of_encode (h : encode i = some w) : decodeWord w = .ok i := by
  cases i with
  | initChip | closeChip | setFreq | send | startCarrier | stopCarrier => cases h; simp [decodeWord, decodePlain]
  | _ => cases h

/-- The decoder is the encoder's inverse. -/
theorem decodeWord_eq_ok_iff : decodeWord w = .ok i ↔ encode i = some w := ⟨encode_of_decodeWord, decodeWord_of_encode⟩

/-- The bytes of a word, low byte first (R63), and any bytes after them. -/
theorem decodeBytes_word (h : decodeWord w = .ok i) (rest : List Byte) :
    decodeBytes (w.extractLsb' 0 8 :: w.extractLsb' 8 8 :: rest) = .ok (i, rest) := by
  rw [decodeBytes, BitVec.extractLsb'_append_extractLsb' (w := 8) (len := 8), h]

/-- Settles O2: the two bytes make up the word again, and the decoder is the encoder's inverse. -/
theorem decodeOfEncodeIsTheInstruction : Obligations.DecodeOfEncodeIsTheInstruction :=
  fun _ _ rest _ h => decodeBytes_word (decodeWord_of_encode h) rest

/-- Settles O3: each branch of the decoder fixes every field that is not an operand, and so the word. -/
theorem encodeOfDecodeIsTheWord : Obligations.EncodeOfDecodeIsTheWord :=
  fun _ _ h => ⟨encode_of_decodeWord h, Machine.decodeWord_isCommand h⟩

/-- Settles O1: the concrete words of R92, and one that no row has. -/
theorem commandWordsDecode : Obligations.CommandWordsDecode := by
  unfold Obligations.CommandWordsDecode
  decide

/-! ## The rows of the opcode map (R94) -/

/-- A mask and a match are compared field by field. -/
theorem and_eq_iff_fields {m p : Word} : w &&& m = p ↔
    lenField w &&& lenField m = lenField p ∧ rsvField w &&& rsvField m = rsvField p ∧
    modeField w &&& modeField m = modeField p ∧ opField w &&& opField m = opField p := by
  simp only [eq_iff_fields, lenField, rsvField, modeField, opField, BitVec.extractLsb'_and]

/-- The row of INIT_CHIP leaves MODE free. -/
theorem initChip_row_iff :
    w &&& 0xFFEF#16 = 0x0001#16 ↔ lenField w = 0#8 ∧ rsvField w = 0#3 ∧ opField w = 1#4 := by
  rw [and_eq_iff_fields]
  change lenField w &&& BitVec.allOnes 8 = 0#8 ∧ rsvField w &&& BitVec.allOnes 3 = 0#3 ∧ modeField w &&& 0#1 = 0#1 ∧
    opField w &&& BitVec.allOnes 4 = 1#4 ↔ _
  simp only [BitVec.and_allOnes, BitVec.and_zero, true_and]

/-- The row of SEND leaves LEN free. -/
theorem send_row_iff :
    w &&& 0x00FF#16 = 0x0004#16 ↔ rsvField w = 0#3 ∧ modeField w = 0#1 ∧ opField w = 4#4 := by
  rw [and_eq_iff_fields]
  change lenField w &&& 0#8 = 0#8 ∧ rsvField w &&& BitVec.allOnes 3 = 0#3 ∧ modeField w &&& BitVec.allOnes 1 = 0#1 ∧
    opField w &&& BitVec.allOnes 4 = 4#4 ↔ _
  simp only [BitVec.and_allOnes, BitVec.and_zero, true_and]

/-- The other rows leave no bit free. -/
theorem plain_row_iff {p : Word} : w &&& 0xFFFF#16 = p ↔ w = p := by
  rw [show 0xFFFF#16 = BitVec.allOnes 16 from rfl, BitVec.and_allOnes]

theorem row_iff : (∃ r ∈ cmdTable, w &&& r.mask = r.pattern) ↔
    (lenField w = 0#8 ∧ rsvField w = 0#3 ∧ opField w = 1#4) ∨ w = 0x0002#16 ∨ w = 0x0003#16 ∨
    (rsvField w = 0#3 ∧ modeField w = 0#1 ∧ opField w = 4#4) ∨ w = 0x0005#16 ∨ w = 0x0006#16 := by
  simp only [cmdTable, List.mem_cons, List.not_mem_nil, or_false, exists_eq_or_imp, exists_eq_left, initChip_row_iff,
    send_row_iff, plain_row_iff]

/-- The words of commands are those that a row matches. -/
theorem exists_encode_iff_row : (∃ i, encode i = some w) ↔ ∃ r ∈ cmdTable, w &&& r.mask = r.pattern := by
  rw [row_iff]
  constructor
  · rintro ⟨i, h⟩
    cases i with
    | initChip => cases h; exact .inl ⟨lenField_cmd16, rsvField_cmd16, opField_cmd16⟩
    | closeChip => cases h; exact .inr (.inl rfl)
    | setFreq => cases h; exact .inr (.inr (.inl rfl))
    | send => cases h; exact .inr (.inr (.inr (.inl ⟨rsvField_cmd16, modeField_cmd16, opField_cmd16⟩)))
    | startCarrier => cases h; exact .inr (.inr (.inr (.inr (.inl rfl))))
    | stopCarrier => cases h; exact .inr (.inr (.inr (.inr (.inr rfl))))
    | _ => cases h
  · rintro (⟨hlen, hrsv, hop⟩ | rfl | rfl | ⟨hrsv, hmode, hop⟩ | rfl | rfl)
    · exact ⟨_, encode_initChip_of_fields hlen hrsv hop⟩
    · exact ⟨.closeChip, rfl⟩
    · exact ⟨.setFreq, rfl⟩
    · exact ⟨_, encode_send_of_fields hrsv hmode hop⟩
    · exact ⟨.startCarrier, rfl⟩
    · exact ⟨.stopCarrier, rfl⟩

/-! ## The illegal words (R94) -/

/-- The word is none of those that R94 lists as illegal. -/
def LegalFields (w : Word) : Prop :=
  opField w ≠ 0#4 ∧ ¬ 7#4 ≤ opField w ∧ (modeField w = 0#1 ∨ opField w = 1#4) ∧ rsvField w = 0#3 ∧
    (lenField w = 0#8 ∨ opField w = 4#4)

/-- An OP that is not reserved is that of one of the six commands. -/
theorem legalOp_cases : ∀ op : BitVec 4, op ≠ 0#4 → ¬ 7#4 ≤ op →
    op = 1#4 ∨ op = 2#4 ∨ op = 3#4 ∨ op = 4#4 ∨ op = 5#4 ∨ op = 6#4 := by decide

/-- With an OP other than those of INIT_CHIP and SEND, a legal word is that OP alone. -/
theorem LegalFields.encode_plain (h : LegalFields w) (hop : opField w = op) (hinit : op ≠ 1#4) (hsend : op ≠ 4#4)
    (hi : encode i = some (cmd16 0#8 0#1 op)) : encode i = some w := by
  obtain ⟨-, -, hmode, hrsv, hlen⟩ := h
  subst hop
  rw [hi, ← eq_cmd16_iff.2 ⟨hlen.resolve_right hsend, hrsv, hmode.resolve_right hinit, rfl⟩]

theorem LegalFields.exists_encode (h : LegalFields w) : ∃ i, encode i = some w := by
  have ⟨hzero, hhigh, hmode, hrsv, hlen⟩ := h
  obtain hop | hop | hop | hop | hop | hop := legalOp_cases _ hzero hhigh
  · exact ⟨_, encode_initChip_of_fields (hlen.resolve_right (by simp [hop])) hrsv hop⟩
  · exact ⟨.closeChip, h.encode_plain hop (by decide) (by decide) rfl⟩
  · exact ⟨.setFreq, h.encode_plain hop (by decide) (by decide) rfl⟩
  · exact ⟨_, encode_send_of_fields hrsv (hmode.resolve_right (by simp [hop])) hop⟩
  · exact ⟨.startCarrier, h.encode_plain hop (by decide) (by decide) rfl⟩
  · exact ⟨.stopCarrier, h.encode_plain hop (by decide) (by decide) rfl⟩

theorem legalFields_of_encode (h : encode i = some w) : LegalFields w := by
  cases i with
  | initChip | closeChip | setFreq | send | startCarrier | stopCarrier => cases h; simp [LegalFields]
  | _ => cases h

theorem exists_decodeWord_iff_row : (∃ i, decodeWord w = .ok i) ↔ ∃ r ∈ cmdTable, w &&& r.mask = r.pattern := by
  simp only [decodeWord_eq_ok_iff, exists_encode_iff_row]

theorem exists_decodeWord_iff_legalFields : (∃ i, decodeWord w = .ok i) ↔ LegalFields w := by
  simp only [decodeWord_eq_ok_iff]
  exact ⟨fun ⟨_, h⟩ => legalFields_of_encode h, LegalFields.exists_encode⟩

/-- MODE is the bit w[4]. -/
theorem modeField_eq_zero_iff : modeField w = 0#1 ↔ ¬ w.getLsbD 4 = true := by
  have hbit : (modeField w).getLsbD 0 = w.getLsbD 4 := by simp [modeField]
  rw [← hbit]
  obtain h | h := BitVec.eq_zero_or_eq_one (modeField w) <;> rw [h] <;> decide

theorem not_legalFields_iff : ¬ LegalFields w ↔
    opField w = 0#4 ∨ 7#4 ≤ opField w ∨ (w.getLsbD 4 = true ∧ opField w ≠ 1#4) ∨ rsvField w ≠ 0#3 ∨
    (lenField w ≠ 0#8 ∧ opField w ≠ 4#4) := by
  simp only [LegalFields, modeField_eq_zero_iff, not_and_or, not_or, not_not, ne_eq]

namespace Machine

theorem presentCommand_illegal (h : ∀ i, decodeWord w ≠ .ok i) (s : State) :
    presentCommand w s = .next (s.raise .illegalOp) := by
  unfold presentCommand
  split
  · rfl
  next i hi => exact absurd hi (h i)

end Machine

/-- Settles O4: a row matches exactly the words of commands, and so do legal fields. -/
theorem wordsAreLegalExactlyAsTheRowsSay : Obligations.WordsAreLegalExactlyAsTheRowsSay := by
  intro w
  refine ⟨exists_decodeWord_iff_row, ?_, fun s h => Machine.presentCommand_illegal h s⟩
  rw [← not_exists, exists_decodeWord_iff_legalFields]
  exact not_legalFields_iff

end Sys2Proof
end

section
/-! SUPPORT. The acceptance of a command, and the host's step by its next statement (30_encoding.md R90, R95, R98). -/

namespace Sys2Proof.Machine

variable {s : State} {w : Word} {i : Instr}

/-! ## Presenting a command (R90, R95) -/

/-- A command is presented with its own word (log 19). -/
theorem exec_eq_present (h : encode i = some w) (s : State) : exec i s = present i w (commandProgram i) s := by
  cases i with
  | initChip | closeChip | setFreq | send | startCarrier | stopCarrier => cases h; rfl
  | _ => cases h

theorem presentCommand_ok (h : decodeWord w = .ok i) (s : State) : presentCommand w s = exec i s := by
  rw [presentCommand, h]

theorem present_refused {p : State → List Micro} (hb : s.busy = false) (ha : admitted s.chipMode i = false) :
    present i w p s = .next (s.raise .mode) := by
  simp [present, hb, ha]

theorem memWrite_cmd (w : Word) (hb : s.busy = false) : memWrite 0x000#9 .w16 w s = presentCommand w s :=
  memWrite_offset .cmd w hb

theorem memWrite_cmd_present (h : decodeWord w = .ok i) (hb : s.busy = false) :
    memWrite 0x000#9 .w16 w s = present i w (commandProgram i) s := by
  rw [memWrite_cmd w hb, presentCommand_ok h, exec_eq_present (encode_of_decodeWord h)]

theorem EndsCommand.ne_nil {ms : List Micro} (h : EndsCommand ms) : ms ≠ [] := by
  rintro rfl
  obtain ⟨_, hlast, -⟩ := h
  cases hlast

/-- Settles O7: the write comes to the decoder, and a word that decodes is itself the word to latch. -/
theorem commandWriteIsRefusedOrAccepted : Obligations.CommandWriteIsRefusedOrAccepted := by
  intro s w hb
  refine ⟨fun h => ?_, fun i hi => ⟨fun ha => ?_, fun ha => ⟨?_, ?_⟩⟩⟩
  · exact (memWrite_cmd w hb).trans (presentCommand_illegal h s)
  · exact (memWrite_cmd_present hi hb).trans (present_refused hb ha)
  · exact (memWrite_cmd_present hi hb).trans (present_accepted hb ha)
  · exact (commandProgram_endsCommand (decodeWord_isCommand hi) _).ne_nil

/-- An admitted command sets BUSY and raises nothing; any other only raises E_MODE. -/
theorem exec_command_admission (hi : i.isCommand = true) (hb : s.busy = false) :
    (admitted s.chipMode i = true → ∃ t, exec i s = .next t ∧ t.busy = true ∧ t.err = s.err) ∧
    (admitted s.chipMode i = false → exec i s = .next (s.raise .mode)) := by
  obtain ⟨w, hexec⟩ := exec_command hi s
  rw [hexec]
  exact ⟨fun ha => ⟨_, present_accepted hb ha, rfl, rfl⟩, present_refused hb⟩

/-- Settles O8: the table of R95 is `admitted`, command by command. -/
theorem commandsAreAdmittedByChipMode : Obligations.CommandsAreAdmittedByChipMode := by
  intro s i hb hi allowed
  have hadmission := exec_command_admission hi hb
  have htable : allowed ↔ admitted s.chipMode i = true := by
    cases i with
    | initChip | closeChip => exact ⟨fun _ => rfl, fun _ => trivial⟩
    | setFreq | send | startCarrier | stopCarrier => cases hc : s.chipMode <;> simp [allowed, hc, admitted]
    | _ => cases hi
  rw [htable, Bool.not_eq_true]
  exact hadmission

/-! ## The host's step (R98) -/

/-- A scheduled host move runs the next statement of the host's program. -/
theorem step_host {ms : List Move} {st : HostStmt} {prog : List HostStmt} (hr : s.rst = false)
    (hs : s.script = .host :: ms) (hp : s.hostProg = st :: prog) :
    step s = hostStmt st { s with script := ms, hostProg := prog } := by
  rw [step_scheduled hs]
  simp [stepMove, hr, hostMove, State.nextStmt, hp]

theorem withFetchWord_toNat (s : State) (w : Word) : s.withFetchWord 16 w.toNat = s.withCommandWord w := by
  rw [State.withFetchWord, Nat.mod_eq_of_lt w.isLt, BitVec.ofNat_toNat, BitVec.setWidth_eq]

/-- Settles O5: the host's next statement is the write of the word to CMD. -/
theorem stepRunsThePresentedCommand : Obligations.StepRunsThePresentedCommand := by
  intro s w i hr hb hi
  calc step (s.withFetchWord 16 w.toNat)
      = step (s.withCommandWord w) := by rw [withFetchWord_toNat]
    _ = memWrite 0x000#9 .w16 w s := step_host (s := s.withCommandWord w) hr rfl rfl
    _ = presentCommand w s := memWrite_cmd w hb
    _ = exec i s := presentCommand_ok hi s

theorem memRead_hostProg (off : Offset) (a : Width) (s : State) : (memRead off a s).hostProg = s.hostProg := by
  obtain ⟨_, _, rfl | rfl | rfl, e⟩ := memRead_cases off a s <;> rw [e] <;> rfl

/-- Settles O48: a POLL is its read, and goes back to the head of the host's program where the condition fails. -/
theorem pollRepeatsUntilItsCondition : Obligations.PollRepeatsUntilItsCondition := by
  intro s ms off mask want prog hr hs hp t
  have hprog : t.hostProg = prog := memRead_hostProg off .w16 _
  have hstep : step s = if t.rdata &&& mask = want then .next t
      else .next { t with hostProg := .poll off mask want :: t.hostProg } := step_host hr hs hp
  exact ⟨fun h => by rw [hstep, if_pos h], fun h => by rw [hstep, if_neg h, hprog, hp]⟩

end Sys2Proof.Machine
end

section
/-! SUPPORT. The lines of a host program and the accesses they stand for (30_encoding.md R98, R99). -/

namespace Sys2Proof.Machine

/-! ## Ranges and expansions -/

theorem assemble_wellFormed {a : AsmStmt} (h : a.wellFormed = true) : AsmStmt.assemble a = some (AsmStmt.expand a) :=
  if_pos h

theorem assemble_illFormed {a : AsmStmt} (h : a.wellFormed = false) : AsmStmt.assemble a = none := by
  simp [AsmStmt.assemble, h]

/-! ## SEND -/

theorem toNat_append_eq_add {m n : Nat} (x : BitVec m) (y : BitVec n) :
    (x ++ y).toNat = x.toNat * 2 ^ n + y.toNat := by
  rw [BitVec.toNat_append, ← Nat.shiftLeft_add_eq_or_of_lt y.isLt, Nat.shiftLeft_eq]

/-- LEN is the high byte of the word of a command, and OP its low digit (R91). -/
theorem toNat_cmd16 (len : Byte) (op : BitVec 4) : (cmd16 len 0#1 op).toNat = len.toNat * 256 + op.toNat := by
  simp only [cmd16, toNat_append_eq_add, BitVec.toNat_ofNat]
  omega

theorem cmd16_send (n : Nat) : cmd16 (BitVec.ofNat 8 n) 0#1 0x4#4 = BitVec.ofNat 16 (n * 256 + 4) := by
  apply BitVec.eq_of_toNat_eq
  simp only [toNat_cmd16, BitVec.toNat_ofNat]
  omega

theorem assemble_send {n : Nat} (hn : n < 256) :
    AsmStmt.assemble (.send n) = some [.w16 0x000#9 (BitVec.ofNat 16 (n * 256 + 4))] := by
  rw [assemble_wellFormed (a := .send n) (decide_eq_true hn), AsmStmt.expand, asmCommand, encode, cmd16_send]

theorem assemble_send_outOfRange {n : Nat} (hn : 256 ≤ n) : AsmStmt.assemble (.send n) = none :=
  assemble_illFormed (decide_eq_false (Nat.not_lt.2 hn))

/-! ## SETF and PROF -/

theorem assemble_setf (hz : BitVec 32) : AsmStmt.assemble (.setf hz.toNat) =
    some [.w16 0x008#9 (hz.extractLsb' 0 16), .w16 0x00A#9 (hz.extractLsb' 16 16)] := by
  have hlo : BitVec.ofNat 16 (hz.toNat % 65536) = hz.extractLsb' 0 16 := by
    apply BitVec.eq_of_toNat_eq
    simp
  have hhi : BitVec.ofNat 16 (hz.toNat / 65536) = hz.extractLsb' 16 16 := by
    apply BitVec.eq_of_toNat_eq
    simp [Nat.shiftRight_eq_div_pow]
  rw [assemble_wellFormed (a := .setf hz.toNat) (decide_eq_true hz.isLt), AsmStmt.expand, asmW16, asmW16, hlo, hhi]

/-- Each operand is one bit of PROFILE (R27). -/
theorem assemble_prof : ∀ x r fe : BitVec 1,
    AsmStmt.assemble (.prof x.toNat r.toNat fe.toNat) = some [.w16 0x006#9 (0#13 ++ fe ++ r ++ x)] := by decide

/-! ## LOADTX -/

/-- From index `k` on, each byte goes to the next index. -/
theorem asmLoad_bytes (bs : List Byte) (k : Nat) : asmLoad k (bs.map (·.toNat)) =
    (bs.zipIdx k).map fun e => .w8 (BitVec.ofNat 9 (0x100 + e.2)) e.1 := by
  induction bs generalizing k with
  | nil => rfl
  | cons b bs ih => simp [asmLoad, ih]

theorem wellFormed_loadtx {bs : List Byte} (hne : bs ≠ []) (hlen : bs.length ≤ 255) :
    (AsmStmt.loadtx (bs.map (·.toNat))).wellFormed = true := by
  have hbytes : (bs.map (·.toNat)).all (· < 256) = true := by simpa using fun b _ => b.isLt
  simp [AsmStmt.wellFormed, hne, hlen, hbytes]

/-- Settles O49: the lines without operands are closed facts; the others line by line. -/
theorem programLinesAssembleToAccesses : Obligations.ProgramLinesAssembleToAccesses :=
  ⟨by decide, by decide, by decide, by decide, by decide, by decide, fun _ => assemble_send,
    fun _ => assemble_send_outOfRange, assemble_setf, assemble_prof,
    fun bs hne hlen => (assemble_wellFormed (wellFormed_loadtx hne hlen)).trans (congrArg some (asmLoad_bytes bs 0)),
    by decide, by decide⟩

end Sys2Proof.Machine
end

section
/-! SUPPORT. RADIO_STATE, CHIP_MODE and F_INTERNAL (10_state.md R25, 30_encoding.md R95, 40_config_frequency.md R133):
which statements a micro-operation places on SEQ, which commands are accepted where, and the invariant of every step. -/

namespace Sys2Proof.Machine

open Sys2Proof.Safety

/-! ## What a micro-operation places -/

/-- A statement that writes no mode, comes to no MODULATE, does not end the command, and is not `fault F_INTERNAL`. -/
def modeNeutral : Micro → Bool
  | .op .modulate | .dispatch | .processBit | .setRadioState _ | .setChipMode _ | .clearBusy
  | .recordFault .internal => false
  | _ => true

/-- Only mode-neutral statements are placed before the rest of SEQ, and no fault is recorded. -/
structure NeutralEffect (s t : State) : Prop where
  placed : ∃ pre, t.seq = pre ++ s.seq ∧ ∀ m ∈ pre, modeNeutral m = true
  faults : t.faults = s.faults

theorem NeutralEffect.of_seq {s t : State} (hseq : t.seq = s.seq) (hfaults : t.faults = s.faults) : NeutralEffect s t :=
  ⟨⟨[], hseq, by simp⟩, hfaults⟩

theorem NeutralEffect.of_before {s t : State} {ms : List Micro} (hms : ∀ m ∈ ms, modeNeutral m = true)
    (h : NeutralEffect (s.before ms) t) : NeutralEffect s t := by
  obtain ⟨⟨pre, hseq, hpre⟩, hfaults⟩ := h
  refine ⟨⟨pre ++ ms, by simpa using hseq, fun m hm => ?_⟩, hfaults⟩
  exact (List.mem_append.1 hm).elim (hpre m) (hms m)

theorem busIssue_neutral {x : BusTxn} {s t : State} (h : busIssue x s = .next t) : NeutralEffect s t := by
  obtain ⟨_, rfl⟩ | ⟨_, rfl⟩ := busIssue_cases h
  · exact .of_seq rfl rfl
  · exact .of_before (by cases x <;> simp [BusTxn.instr, modeNeutral]) (.of_seq rfl rfl)

theorem execBusWrite_neutral {a : RadioAddr} {bs : List Byte} {s t : State} (h : execBusWrite a bs s = .next t) :
    NeutralEffect s t := by
  unfold execBusWrite at h
  split at h
  · cases h
  · exact busIssue_neutral h

theorem execWriteOffset_neutral {v : BitVec 16} {s t : State} (h : execWriteOffset v s = .next t) :
    NeutralEffect s t :=
  execBusWrite_neutral h

theorem execProgramFrequency_neutral {f : BitVec 32} {s t : State} (h : execProgramFrequency f s = .next t) :
    NeutralEffect s t :=
  .of_before (ms := programFrequencyRest f) (by simp [programFrequencyRest, modeNeutral]) (execWriteOffset_neutral h)

/-- A ramp is writes and delays. -/
theorem modeNeutral_of_mem_rampBody {a : RadioAddr} {d : DelayId} {points : List Byte} {m : Micro}
    (h : m ∈ rampBody a d points) : modeNeutral m = true := by
  obtain ⟨b, -, hm⟩ := List.mem_flatMap.1 h
  simp only [List.mem_cons, List.not_mem_nil, or_false] at hm
  obtain rfl | rfl := hm <;> rfl

theorem startRamp_neutral {points : List Byte} {s t : State} (h : startRamp points s = .next t) :
    NeutralEffect s t := by
  cases points with
  | nil => cases h; exact .of_seq rfl rfl
  | cons b rest =>
    refine .of_before (fun m hm => ?_) (execBusWrite_neutral h)
    obtain rfl | hm := List.mem_cons.1 hm
    · rfl
    · exact modeNeutral_of_mem_rampBody hm

theorem execDelay_neutral {d : DelayId} {s t : State} (h : execDelay d s = .next t) : NeutralEffect s t := by
  unfold execDelay at h
  split at h <;> cases h <;> exact .of_seq rfl rfl

theorem execComputeFreqReg_neutral {f : BitVec 32} {s t : State} (h : execComputeFreqReg f s = .next t) :
    NeutralEffect s t := by
  simp only [execComputeFreqReg] at h
  split at h <;> cases h
  · exact .of_seq rfl rfl
  · exact ⟨⟨[.recordFault .freqRange], rfl, by simp [modeNeutral]⟩, rfl⟩

/-- In TX_MODE a MODULATE starts its ramp down and records no fault (R133). -/
theorem execModulate_neutral {s t : State} (htx : s.radioState = .tx) (h : execModulate s = .next t) :
    NeutralEffect s t := by
  rw [execModulate, htx] at h
  exact .of_before (by simp [State.modulateRest, modeNeutral]) (startRamp_neutral h)

theorem execCarrierUp_neutral {s t : State} (h : execCarrierUp s = .next t) : NeutralEffect s t := by
  unfold execCarrierUp at h
  split at h
  · exact .of_before (by simp [modeNeutral]) (busIssue_neutral h)
  · exact startRamp_neutral h

theorem execCarrierDown_neutral {s t : State} (h : execCarrierDown s = .next t) : NeutralEffect s t := by
  refine .of_before (ms := s.carrierDownRest) ?_ (startRamp_neutral h)
  unfold State.carrierDownRest
  split <;> simp [modeNeutral]

theorem execTick_faults {s t : State} (h : execTick s = .next t) : t.faults = s.faults :=
  (congrArg State.faults (execTick_effect h).frame :)

/-- Every instruction but a MODULATE outside TX_MODE is neutral while a command runs. -/
theorem exec_neutral {i : Instr} {s t : State} (hb : s.busy = true) (htx : i = .modulate → s.radioState = .tx)
    (h : exec i s = .next t) : NeutralEffect s t := by
  cases i with
  | initChip | closeChip | setFreq | send | startCarrier | stopCarrier =>
    cases (present_busy hb).symm.trans h
    exact .of_seq rfl rfl
  | busStrobe => exact busIssue_neutral h
  | busWrite => exact execBusWrite_neutral h
  | writeOffset => exact execWriteOffset_neutral h
  | delay => exact execDelay_neutral h
  | rampUp | rampDown => exact (startRamp_neutral h :)
  | computeFreqReg => exact execComputeFreqReg_neutral h
  | programFrequency => exact execProgramFrequency_neutral h
  | modulate => exact execModulate_neutral (htx rfl) h
  | carrierUp => exact execCarrierUp_neutral h
  | carrierDown => exact execCarrierDown_neutral h
  | timerStart | timerStop => cases h; exact ⟨⟨_, rfl, by simp [modeNeutral]⟩, rfl⟩
  | tick =>
    have frame := (execTick_effect h).frame
    exact .of_seq (congrArg State.seq frame :) (congrArg State.faults frame :)

/-! ## The invariant and SEQ -/

/-- A ready CHIP_MODE agrees with RADIO_STATE (R25, R140). -/
def modesAgree (s : State) : Prop :=
  (s.chipMode = .txReady → s.radioState = .tx) ∧ (s.chipMode = .rxReady → s.radioState = .rx)

/-- What `modeInv` says of the statements that write the modes and are still to run. -/
def modesPending (s : State) : List Micro → Prop
  | [] => modesAgree s
  | [.setRadioState m, .setChipMode c] => c = readyMode m
  | [.setChipMode c] => c = .idle ∨ c = readyMode s.radioState
  | _ => False

theorem modeInv_iff {s : State} : modeInv s ↔
    (s.busy = false → s.seq = []) ∧ modesPending s ((toRun s).filter modeOp) ∧
    ((toRun s).any pulsing = true → s.radioState = .tx ∧ (toRun s).filter modeOp = []) ∧
    .recordFault .internal ∉ s.seq := by
  unfold modeInv modesPending
  rfl

theorem modesPending_setRadioState {s : State} {m : RadioMode} {ms : List Micro}
    (h : modesPending s (.setRadioState m :: ms)) : ms = [.setChipMode (readyMode m)] := by
  unfold modesPending at h
  split at h <;> simp_all

theorem modesPending_setChipMode {s : State} {c : ChipMode} {ms : List Micro}
    (h : modesPending s (.setChipMode c :: ms)) : ms = [] ∧ (c = .idle ∨ c = readyMode s.radioState) := by
  unfold modesPending at h
  split at h <;> simp_all

theorem toRun_cons {s t : State} {m : Micro} (hseq : s.seq = m :: t.seq) (hne : m ≠ .clearBusy) :
    toRun s = m :: toRun t := by
  rw [toRun, hseq, List.takeWhile_cons_of_pos (by simpa using hne)]
  rfl

theorem toRun_clearBusy {s : State} {rest : List Micro} (hseq : s.seq = .clearBusy :: rest) : toRun s = [] := by
  rw [toRun, hseq, List.takeWhile_cons_of_neg (by simp)]

theorem toRun_append {s t : State} {pre : List Micro} (hseq : t.seq = pre ++ s.seq) (hpre : .clearBusy ∉ pre) :
    toRun t = pre ++ toRun s := by
  rw [toRun, hseq, List.takeWhile_append_of_pos]
  · rfl
  · intro m hm
    simpa using ne_of_mem_of_not_mem hm hpre

theorem mem_toRun_append {s t : State} {pre : List Micro} {m : Micro} (hseq : t.seq = pre ++ s.seq) (hm : m ∈ toRun t) :
    m ∈ pre ∨ m ∈ toRun s := by
  rw [toRun, hseq, List.takeWhile_append] at hm
  split at hm
  · exact List.mem_append.1 hm
  · exact .inl (List.takeWhile_subset _ hm)

theorem modeNeutral_iff {m : Micro} : modeNeutral m = true ↔
    modeOp m = false ∧ pulsing m = false ∧ m ≠ .clearBusy ∧ m ≠ .recordFault .internal := by
  cases m with
  | op i => cases i <;> simp [modeNeutral, modeOp, pulsing]
  | recordFault f => cases f <;> simp [modeNeutral, modeOp, pulsing]
  | _ => simp [modeNeutral, modeOp, pulsing]

/-- Mode-neutral statements placed before the rest of SEQ do not matter. -/
theorem modeInv_of_placed {s t : State} (hs : modeInv s) (hb : t.busy = true) (hradio : t.radioState = s.radioState)
    (hchip : t.chipMode = s.chipMode) (hplaced : ∃ pre, t.seq = pre ++ s.seq ∧ ∀ m ∈ pre, modeNeutral m = true) :
    modeInv t := by
  obtain ⟨pre, hseq, hpre⟩ := hplaced
  have hneutral (m : Micro) (hm : m ∈ pre) := modeNeutral_iff.1 (hpre m hm)
  have hrun : toRun t = pre ++ toRun s := toRun_append hseq fun h => (hneutral _ h).2.2.1 rfl
  have hops : (toRun t).filter modeOp = (toRun s).filter modeOp := by
    rw [hrun, List.filter_append, List.filter_eq_nil_iff.2 fun m hm => by simp [(hneutral m hm).1], List.nil_append]
  have hpulse : (toRun t).any pulsing = (toRun s).any pulsing := by
    rw [hrun, List.any_append, List.any_eq_false.2 fun m hm => by simp [(hneutral m hm).2.1], Bool.false_or]
  obtain ⟨-, hpending, htx, hinternal⟩ := hs
  refine ⟨by simp [hb], ?_, ?_, ?_⟩
  · rw [hops, hradio, hchip]; exact hpending
  · rw [hops, hpulse, hradio]; exact htx
  · rw [hseq, List.mem_append]
    exact fun h => h.elim (fun h => nomatch hpre _ h) hinternal

/-- In TX_MODE, with no write of a mode to come, any statement may be placed but such a write and `fault F_INTERNAL`. -/
theorem modeInv_of_txMode {s t : State} (hb : t.busy = true) (htx : t.radioState = .tx) (hagree : modesAgree t)
    (hplaced : ∃ pre, t.seq = pre ++ s.seq ∧ ∀ m ∈ pre, modeOp m = false ∧ m ≠ .recordFault .internal)
    (hnone : (toRun s).filter modeOp = []) (hinternal : .recordFault .internal ∉ s.seq) : modeInv t := by
  obtain ⟨pre, hseq, hpre⟩ := hplaced
  have hops : (toRun t).filter modeOp = [] := by
    refine List.filter_eq_nil_iff.2 fun m hm => ?_
    obtain hm | hm := mem_toRun_append hseq hm
    · simp [(hpre m hm).1]
    · exact List.filter_eq_nil_iff.1 hnone m hm
  refine ⟨by simp [hb], ?_, fun _ => ⟨htx, hops⟩, ?_⟩
  · rw [hops]; exact hagree
  · rw [hseq, List.mem_append]
    exact fun h => h.elim (fun h => (hpre _ h).2 rfl) hinternal

/-! ## The micro-steps -/

/-- A statement after which only mode-neutral ones are placed. -/
theorem microStep_neutral {m : Micro} {s t : State} (hb : s.busy = true) (hm : modeNeutral m = true)
    (h : microStep m s = .next t) :
    (∃ pre, t.seq = pre ++ s.seq ∧ ∀ x ∈ pre, modeNeutral x = true) ∧ t.faults.internal = s.faults.internal := by
  have effect (h : NeutralEffect s t) := And.intro h.placed (congrArg FaultSet.internal h.faults)
  cases m with
  | op i => exact effect (exec_neutral hb (fun hi => by subst hi; cases hm) h)
  | freqByte k =>
    exact effect (execBusWrite_neutral (a := freqAddr s.cfg k) (bs := [freqByteOf s.freqQ k]) h)
  | recordFault f =>
    cases h
    refine ⟨⟨[], rfl, by simp⟩, ?_⟩
    cases f with
    | internal => cases hm
    | _ => rfl
  | dispatch | processBit | setRadioState | setChipMode | clearBusy => cases hm
  | _ => cases h; exact effect (.of_seq rfl rfl)

/-- From a statement from which a MODULATE can come, in TX_MODE. -/
theorem microStep_pulsing {m : Micro} {s t : State} (hb : s.busy = true) (hm : pulsing m = true)
    (htx : s.radioState = .tx) (h : microStep m s = .next t) :
    (∃ pre, t.seq = pre ++ s.seq ∧ ∀ x ∈ pre, modeOp x = false ∧ x ≠ .recordFault .internal) ∧
    t.faults.internal = s.faults.internal := by
  have neutral {x : Micro} (hx : modeNeutral x = true) : modeOp x = false ∧ x ≠ .recordFault .internal := by
    obtain ⟨hop, -, -, hfault⟩ := modeNeutral_iff.1 hx
    exact ⟨hop, hfault⟩
  have hafter : ∀ x ∈ afterBit, modeOp x = false ∧ x ≠ .recordFault .internal := by decide
  cases m with
  | op i =>
    obtain ⟨⟨pre, hseq, hpre⟩, hfaults⟩ := exec_neutral hb (fun _ => htx) h
    exact ⟨⟨pre, hseq, fun x hx => neutral (hpre x hx)⟩, congrArg FaultSet.internal hfaults⟩
  | dispatch =>
    obtain ⟨body, hbody, rfl⟩ := dispatchStep_cases h
    refine ⟨⟨body, rfl, ?_⟩, rfl⟩
    simp only [List.mem_cons, List.not_mem_nil, or_false] at hbody
    obtain rfl | rfl | rfl | rfl := hbody <;> decide
  | processBit =>
    obtain ⟨-, rfl⟩ | ⟨-, ⟨b, rfl⟩ | hmod | rfl⟩ := processBitStep_cases h
    · exact ⟨⟨overrunRest, rfl, by decide⟩, rfl⟩
    · exact ⟨⟨bitBody b, rfl, by cases b <;> decide⟩, rfl⟩
    · obtain ⟨⟨pre, hseq, hpre⟩, hfaults⟩ := execModulate_neutral (s := s.before afterBit) htx hmod
      refine ⟨⟨pre ++ afterBit, by simpa using hseq, fun x hx => ?_⟩, congrArg FaultSet.internal hfaults⟩
      obtain hx | hx := List.mem_append.1 hx
      · exact neutral (hpre x hx)
      · exact hafter x hx
    · exact ⟨⟨[.leaveTxProcessing, .dispatch], rfl, by decide⟩, rfl⟩
  | _ => cases hm

/-- A state whose modes agree meets the invariant where SEQ writes no mode and comes to no MODULATE. -/
theorem modeInv_of_modesAgree {s : State} (hbusy : s.busy = false → s.seq = []) (hagree : modesAgree s)
    (hops : (toRun s).filter modeOp = []) (hpulse : (toRun s).any pulsing = false)
    (hinternal : .recordFault .internal ∉ s.seq) : modeInv s :=
  modeInv_iff.2 ⟨hbusy, by rwa [hops], by simp [hpulse], hinternal⟩

/-- What is left of the invariant behind the head of SEQ. -/
theorem modeInv_cons {s t : State} {m : Micro} (hs : modeInv s) (hseq : s.seq = m :: t.seq) (hne : m ≠ .clearBusy) :
    modesPending s ((m :: toRun t).filter modeOp) ∧
    ((pulsing m = true ∨ (toRun t).any pulsing = true) →
      s.radioState = .tx ∧ (m :: toRun t).filter modeOp = []) ∧
    m ≠ .recordFault .internal ∧ .recordFault .internal ∉ t.seq := by
  obtain ⟨-, hpending, hpulse, hinternal⟩ := modeInv_iff.1 hs
  rw [toRun_cons hseq hne] at hpending hpulse
  rw [hseq, List.mem_cons, not_or] at hinternal
  rw [List.any_cons, Bool.or_eq_true] at hpulse
  exact ⟨hpending, hpulse, Ne.symm hinternal.1, hinternal.2⟩

/-- Only the two writes of modes write them. -/
theorem microStep_modes {m : Micro} {s t : State} (hb : s.busy = true) (hm : modeOp m = false)
    (h : microStep m s = .next t) : t.radioState = s.radioState ∧ t.chipMode = s.chipMode := by
  have hw := (microStep_effect hb h).writes
  constructor
  · by_contra hne
    obtain ⟨v, rfl⟩ := hw.radioState hne
    cases hm
  · by_contra hne
    obtain ⟨v, rfl⟩ := hw.chipMode hne
    cases hm

/-- The two writes of modes meet the condition under which they were placed (R140, R141). -/
theorem modeInv_write {m : Micro} {s t : State} {rest : List Micro} (hb : s.busy = true) (hs : modeInv s)
    (hseq : s.seq = m :: rest) (hm : modeOp m = true) (h : microStep m { s with seq := rest } = .next t) :
    modeInv t ∧ t.faults.internal = s.faults.internal := by
  have hne : m ≠ .clearBusy := fun e => by subst e; cases hm
  obtain ⟨hpending, hpulse, -, hinternal⟩ := modeInv_cons (t := { s with seq := rest }) hs hseq hne
  rw [List.filter_cons_of_pos hm] at hpending hpulse
  have hquiet : (toRun { s with seq := rest }).any pulsing = false :=
    Bool.eq_false_iff.2 fun hp => nomatch (hpulse (.inr hp)).2
  cases m with
  | setRadioState v =>
    cases h
    have hops := modesPending_setRadioState hpending
    refine ⟨modeInv_iff.2 ⟨by simp [hb], (congrArg (modesPending _) hops).mpr (.inr rfl), ?_, hinternal⟩, rfl⟩
    exact fun hp => absurd (hquiet.symm.trans hp) Bool.false_ne_true
  | setChipMode c =>
    cases h
    obtain ⟨hops, hc⟩ := modesPending_setChipMode hpending
    refine ⟨modeInv_of_modesAgree (by simp [hb]) ?_ hops hquiet hinternal, rfl⟩
    obtain rfl | rfl := hc
    · exact ⟨nofun, nofun⟩
    · cases s.radioState <;> simp [modesAgree, readyMode]
  | _ => cases hm

/-- From a state that meets the invariant, one that does, with no new F_INTERNAL. -/
def KeepsModes (s t : State) : Prop := modeInv s → modeInv t ∧ t.faults.internal = s.faults.internal

theorem KeepsModes.refl (s : State) : KeepsModes s s := fun hs => ⟨hs, rfl⟩

theorem KeepsModes.trans {s t u : State} (hst : KeepsModes s t) (htu : KeepsModes t u) : KeepsModes s u := fun hs => by
  obtain ⟨ht, hinternal⟩ := hst hs
  obtain ⟨hu, hinternal'⟩ := htu ht
  exact ⟨hu, hinternal'.trans hinternal⟩

theorem SeqEffect.keepsModes {s t : State} (h : SeqEffect s t) : KeepsModes s t := by
  intro hs
  cases h with
  | idle e => rw [e]; exact ⟨hs, rfl⟩
  | runs m rest busy bus seq micro =>
    by_cases hne : m = .clearBusy
    · subst hne
      cases micro
      have hagree : modesAgree s := by
        have hpending := (modeInv_iff.1 hs).2.1
        rwa [toRun_clearBusy seq] at hpending
      exact ⟨modeInv_of_modesAgree (fun _ => rfl) hagree rfl rfl List.not_mem_nil, rfl⟩
    cases hm : modeOp m with
    | true => exact modeInv_write busy hs seq hm micro
    | false =>
      obtain ⟨hpending, hpulse, hfault, hinternal⟩ := modeInv_cons (t := { s with seq := rest }) hs seq hne
      rw [List.filter_cons_of_neg (by simp [hm])] at hpending hpulse
      have hbusy : t.busy = true := microStep_busy (s := { s with seq := rest }) busy hne micro
      obtain ⟨hradio, hchip⟩ := microStep_modes (s := { s with seq := rest }) busy hm micro
      cases hp : pulsing m with
      | true =>
        obtain ⟨htx, hops⟩ := hpulse (.inl hp)
        rw [hops] at hpending
        obtain ⟨hplaced, hfaults⟩ := microStep_pulsing (s := { s with seq := rest }) busy hp htx micro
        refine ⟨modeInv_of_txMode hbusy (hradio.trans htx) ?_ hplaced hops hinternal, hfaults⟩
        rw [modesAgree, hradio, hchip]
        exact hpending
      | false =>
        obtain ⟨hplaced, hfaults⟩ :=
          microStep_neutral (s := { s with seq := rest }) busy (modeNeutral_iff.2 ⟨hm, hp, hne, hfault⟩) micro
        have hrest : modeInv { s with seq := rest } :=
          modeInv_iff.2 ⟨by simp [busy], hpending, fun h => hpulse (.inr h), hinternal⟩
        exact ⟨modeInv_of_placed hrest hbusy hradio hchip hplaced, hfaults⟩

/-! ## The host -/

/-- What a host access does to BUSY, SEQ and F_INTERNAL: nothing, or it accepts a command that CHIP_MODE admits. -/
structure AdmitEffect (s t : State) : Prop where
  internal : t.faults.internal = s.faults.internal
  seq : (t.busy = s.busy ∧ t.seq = s.seq) ∨
    ∃ i u, s.busy = false ∧ t.busy = true ∧ admitted s.chipMode i = true ∧ t.seq = commandProgram i u

theorem AdmitEffect.of_eq {s t : State} (hinternal : t.faults.internal = s.faults.internal) (hbusy : t.busy = s.busy)
    (hseq : t.seq = s.seq) : AdmitEffect s t := ⟨hinternal, .inl ⟨hbusy, hseq⟩⟩

theorem presentCommand_admit {w : Word} {s t : State} (h : presentCommand w s = .next t) : AdmitEffect s t := by
  cases hw : decodeWord w with
  | error r => rw [presentCommand, hw] at h; cases h; exact .of_eq rfl rfl rfl
  | ok i =>
    rw [presentCommand_ok hw, exec_eq_present (encode_of_decodeWord hw)] at h
    obtain ⟨-, e⟩ | ⟨-, -, e⟩ | ⟨hidle, hadm, e⟩ := present_cases i w (commandProgram i) s <;> cases e.symm.trans h
    · exact .of_eq rfl rfl rfl
    · exact .of_eq rfl rfl rfl
    · exact ⟨rfl, .inr ⟨i, s.latch w, hidle, rfl, hadm, rfl⟩⟩

theorem writeReg_admit {r : HostReg} {v : Word} {s t : State} (h : writeReg r v s = .next t) : AdmitEffect s t := by
  cases r with
  | cmd => exact presentCommand_admit h
  | _ => cases h; exact .of_eq rfl rfl rfl

theorem memWrite_admit {off : Offset} {w : Width} {v : Word} {s t : State} (h : memWrite off w v s = .next t) :
    AdmitEffect s t := by
  cases hleg : legalAccess off w with
  | false => cases (memWrite_illegal hleg).symm.trans h; exact .of_eq rfl rfl rfl
  | true =>
    obtain rfl | ⟨r, hr⟩ | e := memWrite_legal_cases hleg h
    · exact .of_eq rfl rfl rfl
    · exact writeReg_admit hr
    · rw [e]; exact .of_eq rfl rfl rfl

/-- A read, and what it leaves of the host's program. -/
theorem memRead_admit (off : Offset) (w : Width) (s : State) (prog : List HostStmt) :
    AdmitEffect s { memRead off w s with hostProg := prog } := by
  obtain ⟨_, v, rfl | rfl | rfl, e⟩ := memRead_cases off w s <;> rw [e] <;> exact .of_eq rfl rfl rfl

theorem hostStmt_admit {st : HostStmt} {s t : State} (h : hostStmt st s = .next t) : AdmitEffect s t := by
  cases st with
  | w16 | w8 => exact memWrite_admit h
  | r16 | r8 => cases h; exact memRead_admit _ _ s _
  | poll off mask want =>
    simp only [hostStmt] at h
    split at h <;> cases h <;> exact memRead_admit off .w16 s _

theorem hostMove_admit {s t : State} (h : hostMove s = .next t) : AdmitEffect s t := by
  unfold hostMove at h
  split at h <;> obtain ⟨hinternal, hseq⟩ := hostStmt_admit h <;> exact ⟨hinternal, hseq⟩

/-- INIT_CHIP's program before its last three statements. -/
theorem initChipProgram_neutral (m : RadioMode) (s : State) :
    ∃ pre, initChipProgram m s = pre ++ [.setRadioState m, .setChipMode (readyMode m), .clearBusy] ∧
      ∀ x ∈ pre, modeNeutral x = true := by
  refine ⟨_, rfl, ?_⟩
  simp only [List.mem_append, tableWrites, List.mem_map]
  rintro x ((((hx | ⟨e, -, rfl⟩) | hx) | hx) | hx)
  · revert x; simp [modeNeutral]
  · rfl
  · revert x; simp [modeNeutral]
  · revert x; unfold frontEndWrites; split <;> simp [modeNeutral]
  · revert x; cases m <;> simp [rxIrqWrites, modeNeutral]

/-- An admitted command's program meets the invariant: SEND alone comes to a MODULATE, and it is admitted in TX_READY
only (R95). -/
theorem modeInv_accept {t : State} {i : Instr} {u : State} (hb : t.busy = true) (hagree : modesAgree t)
    (hadm : admitted t.chipMode i = true) (hseq : t.seq = commandProgram i u) : modeInv t := by
  cases i with
  | initChip m =>
    obtain ⟨pre, hprog, hpre⟩ := initChipProgram_neutral m u
    have hlast : modeInv { t with seq := [.setRadioState m, .setChipMode (readyMode m), .clearBusy] } :=
      modeInv_iff.2 ⟨by simp [hb], rfl, nofun, by simp⟩
    exact modeInv_of_placed hlast hb rfl rfl ⟨pre, hseq.trans hprog, hpre⟩
  | closeChip =>
    refine modeInv_iff.2 ⟨by simp [hb], ?_, ?_, ?_⟩
    · rw [toRun, hseq]; exact .inl rfl
    · rw [toRun, hseq]; nofun
    · rw [hseq]; simp [commandProgram, closeChipProgram]
  | setFreq | startCarrier | stopCarrier =>
    refine modeInv_of_modesAgree (by simp [hb]) hagree ?_ ?_ ?_
    · rw [toRun, hseq]; rfl
    · rw [toRun, hseq]; rfl
    · rw [hseq]; simp [commandProgram, setFreqProgram, startCarrierProgram, stopCarrierProgram]
  | send len =>
    have hready : t.chipMode = .txReady := by
      cases hc : t.chipMode <;> simp [hc, admitted] at hadm ⊢
    have hplaced : ∃ pre, t.seq = pre ++ { t with seq := [] }.seq ∧
        ∀ x ∈ pre, modeOp x = false ∧ x ≠ .recordFault .internal := ⟨sendProgram, hseq, by decide⟩
    exact modeInv_of_txMode hb (hagree.1 hready) hagree hplaced rfl List.not_mem_nil
  | _ => cases hc : t.chipMode <;> rw [hc] at hadm <;> cases hadm

theorem modesAgree_of_idle {s : State} (hs : modeInv s) (hb : s.busy = false) : modesAgree s := by
  obtain ⟨hidle, hpending, -⟩ := modeInv_iff.1 hs
  rwa [toRun, hidle hb] at hpending

/-- The invariant speaks of BUSY, SEQ, RADIO_STATE and CHIP_MODE. -/
theorem modeInv_of_seq {s t : State} (hbusy : t.busy = s.busy) (hseq : t.seq = s.seq)
    (hradio : t.radioState = s.radioState) (hchip : t.chipMode = s.chipMode) (hs : modeInv s) : modeInv t := by
  unfold modeInv toRun
  rw [hbusy, hseq, hradio, hchip]
  exact hs

theorem hostMove_keepsModes {s t : State} (h : hostMove s = .next t) : KeepsModes s t := by
  intro hs
  obtain ⟨hchip, hradio, -⟩ := registers_eq_iff.1 (hostMove_effect h).agentWrites.registers
  obtain ⟨hinternal, ⟨hbusy, hseq⟩ | ⟨i, u, hidle, hbusy, hadm, hseq⟩⟩ := hostMove_admit h
  · exact ⟨modeInv_of_seq hbusy hseq hradio hchip hs, hinternal⟩
  · have hagree : modesAgree t := by
      rw [modesAgree, hradio, hchip]
      exact modesAgree_of_idle hs hidle
    exact ⟨modeInv_accept hbusy hagree (hchip ▸ hadm) hseq, hinternal⟩

/-! ## The other agents, and every step -/

theorem EnvEffect.keepsModes {s t : State} (h : EnvEffect s t) (hinternal : t.faults.internal = s.faults.internal) :
    KeepsModes s t := by
  intro hs
  obtain ⟨hchip, hradio, -⟩ := registers_eq_iff.1 h.registers
  exact ⟨modeInv_of_seq h.busy h.seq hradio hchip hs, hinternal⟩

theorem busMove_keepsModes {r : BusResult} {s t : State} (h : busMove r s = .next t) : KeepsModes s t := by
  refine (busMove_effect h).2.keepsModes ?_
  unfold busMove at h
  split at h <;> cases h
  · cases r <;> rfl
  · rfl

theorem tickMove_keepsModes {s t : State} (h : tickMove s = .next t) : KeepsModes s t := by
  obtain rfl | htick := tickMove_effect h
  · exact .refl t
  · exact (EnvEffect.of_tick htick).keepsModes (congrArg (·.faults.internal) htick.frame :)

theorem clockEdge_faults {s t : State} (h : clockEdge s = .next t) : t.faults = s.faults := by
  simp only [clockEdge] at h
  split at h
  · split at h
    · exact (execTick_faults h :)
    · cases h; rfl
  · cases h; rfl

theorem cycleEdge_faults {armed : Bool} {s t : State} (h : cycleEdge armed s = .next t) : t.faults = s.faults := by
  unfold cycleEdge at h
  split at h
  · cases h; rfl
  · exact clockEdge_faults h

theorem cycleMove_keepsModes {a q : Bool} {s t : State} (h : cycleMove a q s = .next t) : KeepsModes s t := by
  unfold cycleMove at h
  split at h
  · cases h; exact .refl s
  obtain ⟨v, hv, hedge⟩ := andThen_next h
  obtain ⟨u, hhost, hseq⟩ := andThen_next hv
  have hu : KeepsModes s u := by
    split at hhost
    · exact hostMove_keepsModes hhost
    · cases hhost; exact .refl s
  have hv : KeepsModes u v := by
    split at hseq
    · exact (seqMove_effect hseq).keepsModes
    · cases hseq; exact .refl _
  have ht : KeepsModes v t := (cycleEdge_effect hedge).keepsModes (congrArg FaultSet.internal (cycleEdge_faults hedge))
  exact (hu.trans hv).trans ht

theorem tclkMove_keepsModes {s t : State} (h : tclkMove s = .next t) : KeepsModes s t := by
  refine (tclkMove_effect h).keepsModes ?_
  unfold tclkMove at h
  split at h
  · cases h; rfl
  · exact congrArg FaultSet.internal (clockEdge_faults h)

theorem blockReset_modeInv (s : State) (b : Bool) : modeInv { s.blockReset with rst := b } := reset_modeInv

/-- Block reset gives the invariant with FAULTS empty, and every other move keeps it with no new F_INTERNAL. -/
theorem stepMove_modeInv {m : Move} {s t : State} (h : stepMove m s = .next t) (hs : modeInv s) :
    modeInv t ∧ (t.faults.internal = true → s.faults.internal = true) := by
  have released {f : State → Result} (hf : f s = .next t → KeepsModes s t)
      (h : (if s.rst then .next s else f s) = .next t) :
      modeInv t ∧ (t.faults.internal = true → s.faults.internal = true) := by
    have hkeeps : KeepsModes s t := by
      split at h
      · cases h; exact .refl s
      · exact hf h
    exact (hkeeps hs).imp_right fun e ht => e.symm.trans ht
  cases m with
  | host => exact released hostMove_keepsModes h
  | seq => exact released (fun h => (seqMove_effect h).keepsModes) h
  | bus => exact released busMove_keepsModes h
  | tick => exact released tickMove_keepsModes h
  | tclk => exact released tclkMove_keepsModes h
  | cycle => exact released cycleMove_keepsModes h
  | rst asserted =>
    simp only [stepMove] at h
    split at h <;> cases h
    · exact ⟨blockReset_modeInv s asserted, nofun⟩
    · exact ⟨hs, id⟩

/-- Settles O55: SEND is admitted in TX_READY only, where RADIO_STATE is TX_MODE, and no statement that SEND runs writes
a mode. -/
theorem modulateNeverRunsOutsideTxMode : Obligations.ModulateNeverRunsOutsideTxMode := by
  intro s t hs h
  unfold step runNext at h
  split at h <;> exact (stepMove_modeInv h hs :)

end Sys2Proof.Machine
end

section
/-! SUPPORT. The radio bus, the delay and the offset burst, each in its own step (40_config_frequency.md R120 to R122,
R125, 70_reset_and_hazards.md R275). -/

namespace Sys2Proof.Machine

open Sys2Proof.Safety

variable {s : State} {ms : List Move}

theorem execBusStrobe_free (c : Byte) (h : s.bus = none) :
    execBusStrobe c s = .next { s with
      hist := s.hist ++ [.strobe c], bus := some (.strobe c), busWait := s.busWaitAfter (.strobe c) } :=
  busIssue_free h

/-! ## A transaction in flight -/

theorem seqMove_holds (h : s.hold ≠ 0) : seqMove s = .next s :=
  seqMove_stutters (Bool.eq_false_iff.2 fun hfree => h (sequencerFree_iff.1 hfree).2.2)

/-- While its time on the port runs a transaction is not completed (R275). -/
theorem busMove_early (r : BusResult) (h : s.busWait ≠ 0) : busMove r s = .next s := by
  simp [busMove, h]

theorem busMove_due (r : BusResult) (hb : s.bus ≠ none) (h : s.busWait = 0) :
    busMove r s = .next (busComplete r s) := by
  simp [busMove, h, Option.isSome_iff_ne_none.2 hb]

theorem step_bus {r : BusResult} (hr : s.rst = false) (hs : s.script = .bus r :: ms) :
    step s = busMove r { s with script := ms } := by
  rw [step_scheduled hs, stepMove, if_neg (by simp [hr])]

/-- A sequencer step while a transaction is in flight or a delay runs changes nothing but the schedule. -/
theorem step_seq_stutters (h : seqMove { s with script := ms } = .next { s with script := ms })
    (hs : s.script = .seq :: ms) : step s = .next { s with script := ms } := by
  rw [step_scheduled hs, stepMove, h, ite_self]

/-- The steps from the issue of a transaction to its completion (R77, R120, R121, R275). -/
theorem transaction_steps {x : BusTxn} (t : State) (hr : t.rst = false) (hx : t.bus = some x) :
    (∀ ms, t.script = .seq :: ms → step t = .next { t with script := ms }) ∧
    (∀ r ms, t.busWait ≠ 0 → t.script = .bus r :: ms → step t = .next { t with script := ms }) ∧
    ∀ r ms, t.busWait = 0 → t.script = .bus r :: ms → step t = .next (busComplete r { t with script := ms }) := by
  have hb : t.bus ≠ none := by simp [hx]
  refine ⟨fun ms hs => ?_, fun r ms hw hs => ?_, fun r ms hw hs => ?_⟩
  · exact step_seq_stutters (seqMove_waits hb) hs
  · exact (step_bus hr hs).trans (busMove_early r hw)
  · exact (step_bus hr hs).trans (busMove_due r hb hw)

/-- Settles O9: the issue records the strobe and takes the port, which completes it in a step of its own. -/
theorem busStrobeIssuesThenCompletes : Obligations.BusStrobeIssuesThenCompletes := by
  intro s c hb
  refine ⟨fun hu => ?_, fun ht => ?_, fun t hr hx => ?_⟩
  · exact (execBusStrobe_free c hb).trans (by rw [busWaitAfter_untimed _ hu])
  · exact (execBusStrobe_free c hb).trans (by rw [busWaitAfter_timed _ ht]; rfl)
  · obtain ⟨hseq, hearly, hdue⟩ := transaction_steps t hr hx
    exact ⟨hseq, hearly, fun r ms hw hs => (hdue r ms hw hs).trans (by cases r <;> rfl)⟩

/-- Settles O10: likewise for a write. -/
theorem busWriteIssuesThenCompletes : Obligations.BusWriteIssuesThenCompletes := by
  intro s a bs hb hbs
  have hissue : exec (.busWrite a bs) s = .next { s with
      hist := s.hist ++ [.write a bs], bus := some (.write a bs), busWait := s.busWaitAfter (.write a bs) } :=
    (execBusWrite_of_ne_nil hbs a s).trans (busIssue_free hb)
  refine ⟨fun hu => ?_, fun ht => ?_, fun t hr hx => ?_⟩
  · rw [hissue, busWaitAfter_untimed _ hu]
  · rw [hissue, busWaitAfter_timed _ ht]; rfl
  · obtain ⟨hseq, hearly, hdue⟩ := transaction_steps t hr hx
    exact ⟨hseq, hearly, fun r ms hw hs => (hdue r ms hw hs).trans (by cases r <;> rfl)⟩

/-- Settles O11: the empty list is tested before anything else (log 14). -/
theorem busWriteOfNoByteIsRefused : Obligations.BusWriteOfNoByteIsRefused := fun _ _ => rfl

/-! ## The offset burst and the delay -/

theorem execWriteOffset_free (v : BitVec 16) (h : s.bus = none) :
    execWriteOffset v s = .next { s with
      hist := s.hist ++ [offsetEvent s v]
      bus := some (.write s.cfg.addrFreqOff1 (offsetBytes v))
      busWait := s.busWaitAfter (.write s.cfg.addrFreqOff1 (offsetBytes v)) } :=
  execBusWrite_free h

/-- Settles O15: the two bytes of the offset in one write. -/
theorem writeOffsetIsOneBurst : Obligations.WriteOffsetIsOneBurst := by
  intro s v hb
  refine ⟨fun hu => ?_, fun ht => ?_⟩
  · exact (execWriteOffset_free v hb).trans (by rw [busWaitAfter_untimed _ hu]; rfl)
  · exact (execWriteOffset_free v hb).trans (by rw [busWaitAfter_timed _ ht]; rfl)

theorem execDelay_untimed (d : DelayId) (h : s.cfg.reading = .untimed) :
    execDelay d s = .next { s with hist := s.hist ++ [.delay d] } := by
  simp [execDelay, h, State.record]

theorem execDelay_timed (d : DelayId) (h : s.cfg.reading = .timed) :
    execDelay d s = .next { s with hist := s.hist ++ [.delay d], hold := s.delayLength d } := by
  simp [execDelay, h, State.record]

/-- Settles O13: the record in both readings, the hold in the timed one, which keeps the sequencer from being free. -/
theorem delayRecordsAndHolds : Obligations.DelayRecordsAndHolds :=
  fun _ d => ⟨execDelay_untimed d, execDelay_timed d, fun _ hh hs => step_seq_stutters (seqMove_holds hh) hs⟩

end Sys2Proof.Machine
end

section
/-! SUPPORT. The frequency formula (40_config_frequency.md R128 to R130). -/

namespace Sys2Proof.Machine

open Sys2Proof.Safety

/-! ## The two products (R129) -/

theorem trunc0Mul_natCast (k : Ratio) (n : Nat) : trunc0Mul k n = (k.num * n / k.den : Nat) := by
  rw [trunc0Mul, Int.natCast_ediv, Nat.cast_mul]
  exact Int.tdiv_eq_ediv_of_nonneg (by positivity)

theorem freqProduct_k1_exact {p : Params} (h : p.freqArith = .exact) (x : Bool) (n : Nat) :
    freqProduct p x .k1 n = ((p.k1.sel x).num * n / (p.k1.sel x).den : Nat) := by
  rw [freqProduct, h]
  exact trunc0Mul_natCast _ n

theorem freqProduct_k2_exact {p : Params} (h : p.freqArith = .exact) (x : Bool) (v : Int) :
    freqProduct p x .k2 v = ((p.k2.sel x).num * v).tdiv (p.k2.sel x).den := by
  rw [freqProduct, h]
  rfl

theorem freqProduct_opaque {p : Params} (h : p.freqArith = .opaqueFn) (x : Bool) (t : FreqTerm) (v : Int) :
    freqProduct p x t v = Config.freqArithFn x t v := by
  simp only [freqProduct, h]

/-! ## ComputeFreqReg (R128) -/

theorem freqInRange_iff {q : Int} : freqInRange q = true ↔ 0 ≤ q ∧ q < 2 ^ 24 := by
  simp [freqInRange]

theorem execComputeFreqReg_inRange {s : State} {f : BitVec 32} (h : freqInRange (s.freqInt f) = true) :
    execComputeFreqReg f s = .next { s with freqQ := freqWord (s.freqInt f) } := if_pos h

theorem execComputeFreqReg_outOfRange {s : State} {f : BitVec 32} (h : freqInRange (s.freqInt f) = false) :
    execComputeFreqReg f s = .next { s with
      freqQ := freqWord (s.freqInt f), err := s.err ||| ErrFlag.freqRange.bit
      seq := .recordFault .freqRange :: s.seq } := if_neg (by simp [h])

/-- Settles O16: `q` by the setting of FREQ_ARITH, and the two branches of the range check. -/
theorem computeFreqRegTruncatesTowardZero : Obligations.ComputeFreqRegTruncatesTowardZero := by
  intro s f k1 k2 q
  have hq : s.freqInt f = q := by
    rw [State.freqInt, freqInt]
    cases ha : s.cfg.freqArith with
    | exact => rw [freqProduct_k1_exact ha, freqProduct_k2_exact ha]; simp only [q, ha]; rfl
    | opaqueFn => rw [freqProduct_opaque ha, freqProduct_opaque ha]; simp only [q, ha]
  rw [← hq, ← freqInRange_iff, Bool.not_eq_true]
  exact ⟨execComputeFreqReg_inRange, execComputeFreqReg_outOfRange, fun ms rest hr hs hf hseq => step_seq hs hr hf hseq⟩

/-! ## The inverse formula (R130) -/

/-- A quotient rounded down is within 1 of the exact one. -/
theorem natCast_div_within_one (n d : Nat) (hd : 0 < d) : |((n / d : Nat) : ℚ) - n / d| < 1 := by
  have hle : ((n / d : Nat) : ℚ) ≤ n / d := Nat.cast_div_le
  have hlt : (n : ℚ) / d < ((n / d : Nat) : ℚ) + 1 := by
    rw [div_lt_iff₀ (by exact_mod_cast hd), mul_comm]
    exact_mod_cast Nat.lt_mul_div_succ n hd
  rw [abs_lt]
  constructor <;> linarith

/-- Settles O17: `q` differs from `K1 f - B` by the truncation of one product. -/
theorem frequencyRoundTripIsWithinTheStatedBound : Obligations.FrequencyRoundTripIsWithinTheStatedBound := by
  intro p x neutral f hwf hexact k1 k2 q b
  obtain ⟨hk, -⟩ := hwf
  obtain ⟨hnum, hden, -⟩ := hk x
  have hk1 : 0 < k1 := div_pos (by exact_mod_cast hnum) (by exact_mod_cast hden)
  have hq : q = (freqProduct p x .k1 f.toNat : ℚ) - b := by
    simp only [q, b, freqInt, Int.cast_sub]
  have htrunc : |(freqProduct p x .k1 f.toNat : ℚ) - k1 * f.toNat| < 1 := by
    have h := natCast_div_within_one ((p.k1.sel x).num * f.toNat) (p.k1.sel x).den hden
    rw [freqProduct_k1_exact hexact]
    rwa [Nat.cast_mul, mul_div_right_comm] at h
  calc |(q + k2 * neutral.toInt) / k1 - f.toNat|
      = |((freqProduct p x .k1 f.toNat : ℚ) - k1 * f.toNat + (k2 * neutral.toInt - b)) / k1| := by
        rw [hq]; congr 1; field_simp; ring
    _ = |(freqProduct p x .k1 f.toNat : ℚ) - k1 * f.toNat + (k2 * neutral.toInt - b)| / k1 := by
        rw [abs_div, abs_of_pos hk1]
    _ ≤ (|(freqProduct p x .k1 f.toNat : ℚ) - k1 * f.toNat| + |k2 * neutral.toInt - b|) / k1 := by
        gcongr; exact abs_add_le _ _
    _ < (1 + |k2 * neutral.toInt - b|) / k1 := by gcongr
    _ = 1 / k1 + |k2 * neutral.toInt - b| / k1 := add_div _ _ _

end Sys2Proof.Machine
end

section
/-! SUPPORT. Runs in which every transaction completes `ok`, in the untimed reading: the rules by which the run over
`okSchedule` of a list of statements is put together from the runs of its parts (00_scope.md R8). -/

namespace Sys2Proof.Machine

open Sys2Proof.Safety

/-- A command runs in the untimed reading, with no transaction in flight and no delay running. -/
abbrev Running (s : State) : Prop := calm s ∧ s.busy = true

theorem Running.rst {s : State} (h : Running s) : s.rst = false := h.1.1

theorem Running.untimed {s : State} (h : Running s) : s.cfg.reading = .untimed := h.1.2.1

theorem Running.bus {s : State} (h : Running s) : s.bus = none := h.1.2.2.1

theorem Running.busWait {s : State} (h : Running s) : s.busWait = 0 := h.1.2.2.2.2

theorem Running.sequencerFree {s : State} (h : Running s) : s.sequencerFree = true := by
  obtain ⟨⟨-, -, hbus, hhold, -⟩, hbusy⟩ := h
  exact sequencerFree_iff.2 ⟨hbusy, hbus, hhold⟩

/-- Statements placed on SEQ, and a transaction completed, leave it so. -/
theorem Running.completed {s : State} (h : Running s) (ms : List Micro) :
    Running { s with bus := none, seq := ms } := by
  obtain ⟨⟨hr, hread, -, hhold, hw⟩, hbusy⟩ := h
  exact ⟨⟨hr, hread, rfl, hhold, hw⟩, hbusy⟩

/-- The events are recorded, and nothing else changes. -/
def State.recordAll (s : State) (es : List Event) : State := { s with hist := s.hist ++ es }

@[simp] theorem State.recordAll_nil (s : State) : s.recordAll [] = s := by
  simp [State.recordAll]

@[simp] theorem State.recordAll_recordAll (s : State) (es fs : List Event) :
    (s.recordAll es).recordAll fs = s.recordAll (es ++ fs) := by
  simp [State.recordAll]

theorem State.bus_eta {s : State} (h : s.bus = none) : { s with bus := none } = s := by
  rw [← h]

/-! ## One micro-step of the schedule -/

/-- Where no time is left on the port, the responder's move leaves no transaction in flight. -/
theorem busMove_ok {s : State} (hw : s.busWait = 0) : busMove .ok s = .next { s with bus := none } := by
  cases hb : s.bus with
  | none => rw [State.bus_eta hb]; simp [busMove, hb]
  | some x => exact busMove_due .ok (by simp [hb]) hw

theorem runScript_bus_ok {s : State} {ms : List Move} (hr : s.rst = false) (hw : s.busWait = 0) :
    runScript (.bus .ok :: ms) s = runScript ms { s with bus := none } := by
  rw [runScript_cons, stepMove, if_neg (by simp [hr]), busMove_ok (by exact hw)]
  rfl

theorem runScript_okSchedule_zero {s : State} (hr : s.rst = false) (hw : s.busWait = 0) :
    runScript (okSchedule 0) s = .next { s with bus := none, script := [] } := runScript_bus_ok hr hw

/-- A schedule of completions begins with one, so the transaction in flight does not matter. -/
theorem runScript_okSchedule_completed {s : State} (n : Nat) (hr : s.rst = false) (hw : s.busWait = 0) :
    runScript (okSchedule n) s = runScript (okSchedule n) { s with bus := none } := by
  cases n <;> exact (runScript_bus_ok hr hw).trans (runScript_bus_ok (s := { s with bus := none }) hr hw).symm

theorem runScript_seq {s t : State} {ms : List Move} {m : Micro} {rest : List Micro} (hs : Running s)
    (hseq : s.seq = m :: rest) (hm : microStep m { s with seq := rest, script := ms } = .next { t with script := ms }) :
    runScript (.seq :: ms) s = runScript ms t :=
  run_seq_succ ms.length rfl hs.rst hs.sequencerFree hseq hm

/-! ## Lists of statements -/

/-- From `s`, with the statements `ms` at the head of SEQ, `n` micro-steps and their completions lead to `t` with `ms`
taken off, whatever SEQ holds after them and however many micro-steps follow. -/
def OkRun (n : Nat) (ms : List Micro) (s t : State) : Prop :=
  Running s → Running t ∧ ∀ rest k,
    runScript (okSchedule (k + n)) { s with seq := ms ++ rest } = runScript (okSchedule k) { t with seq := rest }

/-- `f`, run from `s` as the first micro-step, answers a state that `n` more micro-steps and their completions lead from
to `t`, with SEQ as it was. -/
def OkExec (f : State → Result) (n : Nat) (s t : State) : Prop :=
  Running s → ∃ (u : State) (pre : List Micro), Running { u with bus := none } ∧
    (∀ rest ms, f { s with seq := rest, script := ms } = .next { u with seq := pre ++ rest, script := ms }) ∧
    OkRun n pre { u with bus := none } t

theorem OkRun.nil (s : State) : OkRun 0 [] s s := fun hs => ⟨hs, fun _ _ => rfl⟩

theorem OkRun.append {n k : Nat} {ms ms' : List Micro} {s t u : State} (hst : OkRun n ms s t) (htu : OkRun k ms' t u) :
    OkRun (n + k) (ms ++ ms') s u := fun hs => by
  obtain ⟨ht, hrun⟩ := hst hs
  obtain ⟨hu, hrun'⟩ := htu ht
  refine ⟨hu, fun rest j => ?_⟩
  rw [← hrun' rest j, ← hrun (ms' ++ rest) (j + k), List.append_assoc, Nat.add_assoc, Nat.add_comm n k]

/-- One statement: its first micro-step, then what it placed. -/
theorem OkExec.okRun {m : Micro} {n : Nat} {s t : State} (h : OkExec (microStep m) n s t) : OkRun (n + 1) [m] s t :=
  fun hs => by
    obtain ⟨u, pre, hu, hfirst, hrest⟩ := h hs
    obtain ⟨ht, hrun⟩ := hrest hu
    refine ⟨ht, fun rest k => ?_⟩
    calc runScript (okSchedule (k + (n + 1))) { s with seq := m :: rest }
        = runScript (.seq :: okSchedule (k + n)) { s with bus := none, seq := m :: rest } :=
          runScript_bus_ok (s := { s with seq := m :: rest }) hs.rst hs.busWait
      _ = runScript (okSchedule (k + n)) { u with seq := pre ++ rest } :=
          runScript_seq (hs.completed _) rfl (by rw [← hfirst rest]; congr 2; exact hs.bus.symm)
      _ = runScript (okSchedule (k + n)) { u with bus := none, seq := pre ++ rest } :=
          runScript_okSchedule_completed (s := { u with seq := pre ++ rest }) (k + n) hu.rst hu.busWait
      _ = runScript (okSchedule k) { t with seq := rest } := hrun rest k

theorem OkExec.okRun_of_pos {m : Micro} {n : Nat} {s t : State} (hn : 0 < n) (h : OkExec (microStep m) (n - 1) s t) :
    OkRun n [m] s t := by
  have hrun := h.okRun
  rwa [Nat.sub_add_cancel hn] at hrun

/-- A micro-operation followed by statements that it places behind itself. -/
theorem OkExec.before {f : State → Result} {n k : Nat} {ms : List Micro} {s t v : State} (hf : OkExec f n s t)
    (hms : OkRun k ms t v) : OkExec (fun x => f (x.before ms)) (n + k) s v := fun hs => by
  obtain ⟨u, pre, hu, hfirst, hrest⟩ := hf hs
  refine ⟨u, pre ++ ms, hu, fun rest sc => ?_, hrest.append hms⟩
  rw [List.append_assoc]
  exact hfirst (ms ++ rest) sc

/-- A single micro-step that records events and may issue a transaction. -/
theorem OkExec.event {f : State → Result} {s : State} {es : List Event} {x : Option BusTxn}
    (hf : Running s → ∀ rest ms, f { s with seq := rest, script := ms } =
      .next { s with seq := rest, script := ms, hist := s.hist ++ es, bus := x }) : OkExec f 0 s (s.recordAll es) :=
  fun hs => by
    have hdone : { s with hist := s.hist ++ es, bus := none } = s.recordAll es :=
      State.bus_eta (s := s.recordAll es) hs.bus
    refine ⟨{ s with hist := s.hist ++ es, bus := x }, [], ?_, hf hs, ?_⟩
    · exact hdone ▸ hs
    · exact hdone ▸ .nil _

/-- A first micro-step that issues nothing and places the statements `pre`. -/
theorem OkExec.places {f : State → Result} {n : Nat} {s t u : State} {pre : List Micro} (ht : Running s → Running t)
    (hf : ∀ rest ms, f { s with seq := rest, script := ms } = .next { t with seq := pre ++ rest, script := ms })
    (hpre : OkRun n pre t u) : OkExec f n s u := fun hs => by
  have hdone := State.bus_eta (ht hs).bus
  exact ⟨t, pre, hdone.symm ▸ ht hs, hf, hdone.symm ▸ hpre⟩

/-- A single micro-step that issues nothing. -/
theorem OkExec.write {f : State → Result} {s t : State} (ht : Running s → Running t)
    (hf : ∀ rest ms, f { s with seq := rest, script := ms } = .next { t with seq := rest, script := ms }) :
    OkExec f 0 s t :=
  .places (pre := []) ht hf (.nil t)

theorem OkExec.congr {f g : State → Result} {n : Nat} {s t : State} (h : OkExec f n s t)
    (hfg : ∀ rest ms, g { s with seq := rest, script := ms } = f { s with seq := rest, script := ms }) :
    OkExec g n s t := fun hs => by
  obtain ⟨u, pre, hu, hfirst, hrest⟩ := h hs
  exact ⟨u, pre, hu, fun rest ms => (hfg rest ms).trans (hfirst rest ms), hrest⟩

/-! ## Whole instructions -/

theorem OkExec.completesAs {i : Instr} {n : Nat} {s t : State} (hs : Running s) (h : OkExec (exec i) n s t) :
    completesAs i s n { t with seq := s.seq, script := [] } := by
  obtain ⟨u, pre, hu, hfirst, hrest⟩ := h hs
  obtain ⟨ht, hrun⟩ := hrest hu
  refine ⟨_, hfirst s.seq s.script, ?_⟩
  calc runScript (okSchedule n) { u with seq := pre ++ s.seq, script := s.script }
      = runScript (okSchedule n) { u with bus := none, seq := pre ++ s.seq } :=
        runScript_okSchedule_completed (s := { u with seq := pre ++ s.seq, script := s.script }) n hu.rst hu.busWait
    _ = runScript (okSchedule 0) { t with seq := s.seq } := by rw [← hrun s.seq 0, Nat.zero_add]
    _ = .next { t with seq := s.seq, bus := none, script := [] } :=
        runScript_okSchedule_zero (s := { t with seq := s.seq }) ht.rst ht.busWait
    _ = .next { t with seq := s.seq, script := [] } := by rw [ht.bus]

/-- A command is accepted, runs its program, and clears BUSY. -/
theorem completesAs_of_accepted {i : Instr} {w : Word} {n : Nat} {ms : List Micro} {s t : State} (hs : calm s)
    (hi : exec i s = .next { s.latch w with seq := ms ++ [.clearBusy] }) (h : OkRun n ms (s.latch w) t) :
    completesAs i s (n + 1) { t with busy := false, seq := [], script := [] } := by
  obtain ⟨ht, hrun⟩ := h ⟨hs, rfl⟩
  refine ⟨_, hi, ?_⟩
  have hlast : Running { t with seq := [.clearBusy] } := ht
  calc runScript (okSchedule (n + 1)) { s.latch w with seq := ms ++ [.clearBusy] }
      = runScript (okSchedule 1) { t with seq := [.clearBusy] } := by rw [← hrun, Nat.add_comm]
    _ = runScript (.seq :: okSchedule 0) { t with bus := none, seq := [.clearBusy] } :=
        runScript_bus_ok (s := { t with seq := [.clearBusy] }) ht.rst ht.busWait
    _ = runScript (.seq :: okSchedule 0) { t with seq := [.clearBusy] } := by rw [ht.bus]
    _ = runScript (okSchedule 0) { t with busy := false, seq := [] } := runScript_seq hlast rfl rfl
    _ = .next { t with busy := false, seq := [], bus := none, script := [] } :=
        runScript_okSchedule_zero (s := { t with busy := false, seq := [] }) ht.rst ht.busWait
    _ = .next { t with busy := false, seq := [], script := [] } := by rw [ht.bus]

end Sys2Proof.Machine
end

section
/-! SUPPORT. The radio micro-operations run to their ends (40_config_frequency.md R120 to R135). -/

namespace Sys2Proof.Machine

open Sys2Proof.Safety

variable {s : State}

/-! ## Bus, delay and offset -/

theorem busIssue_untimed (x : BusTxn) (hread : s.cfg.reading = .untimed) (hbus : s.bus = none) :
    busIssue x s = .next { s with hist := s.hist ++ [x.event], bus := some x } := by
  rw [busIssue_free hbus, busWaitAfter_untimed x hread]

theorem busIssue_ok (x : BusTxn) : OkExec (busIssue x) 0 s (s.recordAll [x.event]) :=
  .event fun hs rest ms => busIssue_untimed (s := { s with seq := rest, script := ms }) x hs.untimed hs.bus

theorem execBusStrobe_ok (c : Byte) : OkExec (execBusStrobe c) 0 s (s.recordAll [.strobe c]) := busIssue_ok (.strobe c)

theorem execBusWrite_ok (a : RadioAddr) (b : Byte) (bs : List Byte) :
    OkExec (execBusWrite a (b :: bs)) 0 s (s.recordAll [.write a (b :: bs)]) := busIssue_ok (.write a (b :: bs))

theorem execWriteOffset_ok (v : BitVec 16) : OkExec (execWriteOffset v) 0 s (s.recordAll [offsetEvent s v]) :=
  (execBusWrite_ok s.cfg.addrFreqOff1 (v.extractLsb' 8 8) [v.extractLsb' 0 8] :)

theorem execDelay_ok (d : DelayId) : OkExec (execDelay d) 0 s (s.recordAll [.delay d]) :=
  .event fun hs rest ms => execDelay_untimed (s := { s with seq := rest, script := ms }) d hs.untimed

/-! ## Ramps (R123, R124) -/

theorem rampBody_ok (a : RadioAddr) (d : DelayId) (points : List Byte) :
    OkRun (2 * points.length) (rampBody a d points) s
      (s.recordAll (points.flatMap fun b => [.write a [b], .delay d])) := by
  induction points generalizing s with
  | nil => simpa [rampBody] using OkRun.nil s
  | cons b rest ih =>
    have hpoint : OkRun 2 [.op (.busWrite a [b]), .op (.delay d)] s (s.recordAll [.write a [b], .delay d]) := by
      have h := (OkExec.okRun (m := .op (.busWrite a [b])) (execBusWrite_ok a b [])).append
        (OkExec.okRun (m := .op (.delay d)) (execDelay_ok (s := s.recordAll [.write a [b]]) d))
      rwa [State.recordAll_recordAll] at h
    have h := hpoint.append (ih (s := s.recordAll [.write a [b], .delay d]))
    rw [State.recordAll_recordAll] at h
    simpa [rampBody, Nat.mul_add, Nat.add_comm] using h

theorem startRamp_ok {points : List Byte} (h : points ≠ []) :
    OkExec (startRamp points) (2 * points.length - 1) s (s.recordAll (rampEvents s points)) := by
  cases points with
  | nil => exact absurd rfl h
  | cons b rest =>
    have hrest : OkRun (2 * rest.length + 1) (.op (.delay s.rampDelay) :: rampBody s.cfg.addrPa s.rampDelay rest)
        (s.recordAll [.write s.cfg.addrPa [b]]) (s.recordAll (rampEvents s (b :: rest))) := by
      have hdelay := OkExec.okRun (m := .op (.delay s.rampDelay))
        (execDelay_ok (s := s.recordAll [.write s.cfg.addrPa [b]]) s.rampDelay)
      have h := hdelay.append (rampBody_ok s.cfg.addrPa s.rampDelay rest)
      simp only [State.recordAll_recordAll] at h
      rw [Nat.add_comm]
      exact h
    have h := (execBusWrite_ok s.cfg.addrPa b []).before hrest
    have hn : 2 * (b :: rest).length - 1 = 0 + (2 * rest.length + 1) := by simp only [List.length_cons]; omega
    rw [hn]
    exact h

theorem execRampUp_ok (h : s.rampTable ≠ []) :
    OkExec (exec .rampUp) (2 * s.rampTable.length - 1) s (s.recordAll (rampUpEvents s)) := (startRamp_ok h :)

theorem execRampDown_ok (h : s.rampTable ≠ []) :
    OkExec (exec .rampDown) (2 * s.rampTable.length - 1) s (s.recordAll (rampDownEvents s)) := by
  have h := startRamp_ok (s := s) (points := s.rampTable.reverse) (by simpa using h)
  rw [List.length_reverse] at h
  exact h

/-- Settles O14: the first write is the first micro-step, and the rest of the ramp is a list of writes and delays. -/
theorem rampsWalkOneTableInOppositeOrders : Obligations.RampsWalkOneTableInOppositeOrders :=
  fun _ hcalm hbusy htable => ⟨(execRampUp_ok htable).completesAs ⟨hcalm, hbusy⟩,
    (execRampDown_ok htable).completesAs ⟨hcalm, hbusy⟩⟩

theorem ramp_steps_pos (h : s.rampTable ≠ []) : 0 < 2 * s.rampTable.length :=
  Nat.mul_pos two_pos (List.length_pos_iff.2 h)

/-- RampUp and RampDown as calls (R133, R134). -/
theorem rampUp_okRun (h : s.rampTable ≠ []) :
    OkRun (2 * s.rampTable.length) [.op .rampUp] s (s.recordAll (rampUpEvents s)) :=
  OkExec.okRun_of_pos (ramp_steps_pos h) (execRampUp_ok h)

theorem rampDown_okRun (h : s.rampTable ≠ []) :
    OkRun (2 * s.rampTable.length) [.op .rampDown] s (s.recordAll (rampDownEvents s)) :=
  OkExec.okRun_of_pos (ramp_steps_pos h) (execRampDown_ok h)

/-! ## Carrier (R134, R135) -/

theorem execCarrierUp_ok (h : s.rampTable ≠ []) :
    OkExec (exec .carrierUp) (2 * s.rampTable.length - 1 + (if s.cfg.carrierStrobes then 1 else 0)) s
      (s.recordAll (carrierUpEvents s)) := by
  cases hstrobes : s.cfg.carrierStrobes with
  | true =>
    have hpos := ramp_steps_pos h
    have hramp := (execBusStrobe_ok s.cfg.strobeStx).before
      (rampUp_okRun (s := s.recordAll [.strobe s.cfg.strobeStx]) h)
    have hn : 2 * s.rampTable.length - 1 + 1 = 0 + 2 * s.rampTable.length := by omega
    rw [carrierUpEvents, hstrobes, if_pos rfl, if_pos rfl, hn, ← State.recordAll_recordAll]
    exact hramp.congr fun _ _ => if_pos hstrobes
  | false =>
    rw [carrierUpEvents, hstrobes]
    exact (execRampUp_ok h).congr fun _ _ => if_neg (by simp [hstrobes])

theorem carrierDownRest_okRun : OkRun (if s.cfg.carrierStrobes then 1 else 0) s.carrierDownRest s
    (s.recordAll (if s.cfg.carrierStrobes then [.strobe s.cfg.strobeSidle] else [])) := by
  unfold State.carrierDownRest
  split
  · exact OkExec.okRun (execBusStrobe_ok s.cfg.strobeSidle)
  · rw [State.recordAll_nil]; exact .nil s

theorem execCarrierDown_ok (h : s.rampTable ≠ []) :
    OkExec (exec .carrierDown) (2 * s.rampTable.length - 1 + (if s.cfg.carrierStrobes then 1 else 0)) s
      (s.recordAll (carrierDownEvents s)) := by
  rw [carrierDownEvents, ← State.recordAll_recordAll]
  exact ((execRampDown_ok h).before (carrierDownRest_okRun (s := s.recordAll (rampDownEvents s)))).congr fun _ _ => rfl

/-- Settles O20: the strobe, if any, and then RampUp as a call. -/
theorem carrierUpStrobesThenRamps : Obligations.CarrierUpStrobesThenRamps :=
  fun _ hcalm hbusy htable => (execCarrierUp_ok htable).completesAs ⟨hcalm, hbusy⟩

/-- Settles O21: RampDown, and then the strobe, if any. -/
theorem carrierDownRampsThenStrobes : Obligations.CarrierDownRampsThenStrobes :=
  fun _ hcalm hbusy htable => (execCarrierDown_ok htable).completesAs ⟨hcalm, hbusy⟩

/-! ## The frequency (R128, R131) -/

theorem checkFreq_inRange {f : BitVec 32} (h : freqInRange (s.freqInt f) = true) : checkFreq s f = s := if_pos h

theorem checkFreq_outOfRange {f : BitVec 32} (h : freqInRange (s.freqInt f) = false) :
    checkFreq s f = s.raiseFault .freqRange .freqRange := if_neg (by simp [h])

theorem execComputeFreqReg_ok (f : BitVec 32) :
    OkExec (exec (.computeFreqReg f)) (freqFaultSteps s f) s
      { checkFreq s f with freqQ := freqWord (s.freqInt f) } := by
  cases hq : freqInRange (s.freqInt f) with
  | true =>
    rw [checkFreq_inRange hq, freqFaultSteps, hq]
    exact .write id fun rest ms => execComputeFreqReg_inRange (s := { s with seq := rest, script := ms }) hq
  | false =>
    rw [checkFreq_outOfRange hq, freqFaultSteps, hq]
    have hfault : OkRun 1 [.recordFault .freqRange] { s.raise .freqRange with freqQ := freqWord (s.freqInt f) }
        { s.raiseFault .freqRange .freqRange with freqQ := freqWord (s.freqInt f) } :=
      OkExec.okRun (.write id fun _ _ => rfl)
    exact .places (t := { s.raise .freqRange with freqQ := freqWord (s.freqInt f) })
      (pre := [.recordFault .freqRange]) id
      (fun rest ms => execComputeFreqReg_outOfRange (s := { s with seq := rest, script := ms }) hq) hfault

theorem freqByte_okRun (k : Fin 3) :
    OkRun 1 [.freqByte k] s (s.recordAll [.write (freqAddr s.cfg k) [freqByteOf s.freqQ k]]) :=
  OkExec.okRun ((execBusWrite_ok (freqAddr s.cfg k) (freqByteOf s.freqQ k) []).congr fun _ _ => rfl)

theorem setFreqReg_okRun : OkRun 1 [.setFreqReg] s { s with freqReg := s.freqQ } :=
  OkExec.okRun (.write id fun _ _ => rfl)

/-- The value as it is returned goes out LSB first, and then to FREQ_REG. -/
theorem freqWrites_okRun : OkRun 4 [.freqByte 0, .freqByte 1, .freqByte 2, .setFreqReg] s
    { s with
      hist := s.hist ++ [.write s.cfg.addrFreq0 [s.freqQ.extractLsb' 0 8],
        .write s.cfg.addrFreq1 [s.freqQ.extractLsb' 8 8], .write s.cfg.addrFreq2 [s.freqQ.extractLsb' 16 8]]
      freqReg := s.freqQ } := by
  have hbytes := ((freqByte_okRun (s := s) 0).append (freqByte_okRun 1)).append (freqByte_okRun 2)
  simp only [State.recordAll_recordAll] at hbytes
  exact hbytes.append setFreqReg_okRun

/-- The range check looks at no record. -/
theorem checkFreq_recordAll (s : State) (es : List Event) (f : BitVec 32) :
    checkFreq (s.recordAll es) f = (checkFreq s f).recordAll es := by
  cases hq : freqInRange (s.freqInt f) with
  | true => rw [checkFreq_inRange hq, checkFreq_inRange (s := s.recordAll es) hq]
  | false => rw [checkFreq_outOfRange hq, checkFreq_outOfRange (s := s.recordAll es) hq]; rfl

theorem checkFreq_frame (s : State) (f : BitVec 32) :
    checkFreq s f = { s with err := (checkFreq s f).err, faults := (checkFreq s f).faults } := by
  unfold checkFreq
  split <;> rfl

theorem execProgramFrequency_ok (f : BitVec 32) :
    OkExec (exec (.programFrequency f)) (5 + freqFaultSteps s f) s
      { s with
        err := (checkFreq s f).err, faults := (checkFreq s f).faults, hist := s.hist ++ programFrequencyEvents s f
        freqQ := freqWord (s.freqInt f), freqReg := freqWord (s.freqInt f) } := by
  have hcompute := OkExec.okRun (m := .op (.computeFreqReg f))
    (execComputeFreqReg_ok (s := s.recordAll [offsetEvent s s.offsetNeutral]) f)
  have h := (execWriteOffset_ok s.offsetNeutral).before (hcompute.append freqWrites_okRun)
  have hn : 5 + freqFaultSteps s f = 0 + (freqFaultSteps s f + 1 + 4) := by omega
  rw [checkFreq_recordAll, checkFreq_frame] at h
  rw [hn]
  simp only [State.recordAll, List.append_assoc] at h
  exact h

/-- Settles O18: the neutral pair, ComputeFreqReg as a call, the three bytes and FREQ_REG. -/
theorem programFrequencyWritesLsbFirst : Obligations.ProgramFrequencyWritesLsbFirst := by
  intro s f hcalm hbusy
  rw [checkFreq_frame]
  exact (execProgramFrequency_ok f).completesAs ⟨hcalm, hbusy⟩

/-! ## Modulation (R133) -/

theorem writeOffset_okRun (v : BitVec 16) : OkRun 1 [.op (.writeOffset v)] s (s.recordAll [offsetEvent s v]) :=
  OkExec.okRun (execWriteOffset_ok v)

theorem delay_okRun (d : DelayId) : OkRun 1 [.op (.delay d)] s (s.recordAll [.delay d]) :=
  OkExec.okRun (execDelay_ok d)

theorem setOffsetSel_okRun (v : Bool) : OkRun 1 [.setOffsetSel v] s { s with offsetSel := v } :=
  OkExec.okRun (.write id fun _ _ => rfl)

theorem incModCount_okRun : OkRun 1 [.incModCount] s { s with modCount := s.modCount + 1 } :=
  OkExec.okRun (.write id fun _ _ => rfl)

/-- The pulse after the ramp down, the toggle and the count. -/
theorem modulateRest_okRun (h : s.rampTable ≠ []) :
    OkRun (2 * s.rampTable.length + 5) s.modulateRest s
      { s with
        hist := s.hist ++ ([offsetEvent s s.pulseOffset, .delay .phaseHold, offsetEvent s s.offsetNeutral] ++
          rampUpEvents s)
        offsetSel := !s.offsetSel, modCount := s.modCount + 1 } := by
  have hwrites := ((writeOffset_okRun (s := s) s.pulseOffset).append (delay_okRun .phaseHold)).append
    (writeOffset_okRun s.offsetNeutral)
  have hramp := hwrites.append (rampUp_okRun h)
  simp only [State.recordAll_recordAll] at hramp
  have hsel := hramp.append (setOffsetSel_okRun (!s.offsetSel))
  have hn : 2 * s.rampTable.length + 5 = 1 + 1 + 1 + 2 * s.rampTable.length + 1 + 1 := by omega
  rw [hn]
  exact hsel.append incModCount_okRun

theorem pulseEvents_split : pulseEvents s s.offsetSel = rampDownEvents s ++
    ([offsetEvent s s.pulseOffset, .delay .phaseHold, offsetEvent s s.offsetNeutral] ++ rampUpEvents s) :=
  List.append_assoc _ _ _

theorem execModulate_tx (h : s.radioState = .tx) : execModulate s = execRampDown (s.before s.modulateRest) := by
  rw [execModulate, h]

theorem execModulate_rx (h : s.radioState = .rx) :
    execModulate s = .next ((s.recordFault .internal).before (.op .rampDown :: s.modulateRest)) := by
  rw [execModulate, h]

theorem execModulate_ok (h : s.rampTable ≠ []) :
    OkExec (exec .modulate) (4 * s.rampTable.length + 4 + (if s.radioState = .tx then 0 else 1)) s
      { s with
        hist := s.hist ++ pulseEvents s s.offsetSel
        offsetSel := !s.offsetSel, modCount := s.modCount + 1
        faults := if s.radioState = .tx then s.faults else { s.faults with internal := true } } := by
  have hpos := ramp_steps_pos h
  rw [pulseEvents_split, ← List.append_assoc]
  obtain hradio | hradio : s.radioState = .tx ∨ s.radioState = .rx := by cases s.radioState <;> simp
  · have hpulse := (execRampDown_ok h).before (modulateRest_okRun (s := s.recordAll (rampDownEvents s)) h)
    have hn : 4 * s.rampTable.length + 4 + 0 = 2 * s.rampTable.length - 1 + (2 * s.rampTable.length + 5) := by omega
    rw [if_pos hradio, if_pos hradio, hn]
    exact hpulse.congr fun rest ms => execModulate_tx (s := { s with seq := rest, script := ms }) hradio
  · have hpulse := (rampDown_okRun (s := s.recordFault .internal) h).append
      (modulateRest_okRun (s := (s.recordFault .internal).recordAll (rampDownEvents s)) h)
    have hn : 4 * s.rampTable.length + 4 + 1 = 2 * s.rampTable.length + (2 * s.rampTable.length + 5) := by omega
    rw [if_neg (by simp [hradio]), if_neg (by simp [hradio]), hn]
    exact .places (t := s.recordFault .internal) (pre := .op .rampDown :: s.modulateRest) id
      (fun rest ms => execModulate_rx (s := { s with seq := rest, script := ms }) hradio) hpulse

/-- Settles O19: the ramp down, then the rest of the pulse; in RX_MODE `fault F_INTERNAL` comes before them. -/
theorem modulateIsOnePulse : Obligations.ModulateIsOnePulse :=
  fun _ hcalm hbusy htable => (execModulate_ok htable).completesAs ⟨hcalm, hbusy⟩

end Sys2Proof.Machine
end

section
/-! SUPPORT. The host commands run to their ends (40_config_frequency.md R140 to R144). -/

namespace Sys2Proof.Machine

open Sys2Proof.Safety

variable {s : State} {w : Word}

/-- With BUSY = 0 an admitted command is accepted with its own word (R90). -/
theorem exec_accepted {i : Instr} (hi : encode i = some w) (hb : s.busy = false) (ha : admitted s.chipMode i = true) :
    exec i s = .next { s.latch w with seq := commandProgram i (s.latch w) } :=
  (exec_eq_present hi s).trans (present_accepted hb ha)

/-! ## The carrier (R143, R144) -/

theorem carrier_steps (h : s.rampTable ≠ []) (k : Nat) :
    2 * s.rampTable.length + 1 + k = 2 * s.rampTable.length - 1 + k + 1 + 1 := by
  have hpos := ramp_steps_pos h
  omega

/-- Settles O31: CarrierUp as a call. -/
theorem startCarrierRunsToItsEnd : Obligations.StartCarrierRunsToItsEnd := by
  intro s hcalm hb hchip a htable
  have hi : exec .startCarrier s = .next { a with seq := [.op .carrierUp] ++ [.clearBusy] } :=
    exec_accepted (by decide) hb (by rw [hchip]; rfl)
  rw [carrier_steps htable]
  exact completesAs_of_accepted hcalm hi (OkExec.okRun (execCarrierUp_ok htable))

/-- Settles O32: CarrierDown as a call. -/
theorem stopCarrierRunsToItsEnd : Obligations.StopCarrierRunsToItsEnd := by
  intro s hcalm hb hchip a htable
  have hi : exec .stopCarrier s = .next { a with seq := [.op .carrierDown] ++ [.clearBusy] } :=
    exec_accepted (by decide) hb (by rw [hchip]; rfl)
  rw [carrier_steps htable]
  exact completesAs_of_accepted hcalm hi (OkExec.okRun (execCarrierDown_ok htable))

/-! ## SET_FREQ (R142) -/

/-- Settles O30: ProgramFrequency as a call, of FREQ as latched. -/
theorem setFreqRunsToItsEnd : Obligations.SetFreqRunsToItsEnd := by
  intro s hcalm hb hchip a
  have hi : exec .setFreq s = .next { a with seq := [.op (.programFrequency a.freqL)] ++ [.clearBusy] } :=
    exec_accepted (by decide) hb (by obtain h | h := hchip <;> rw [h] <;> rfl)
  have h := completesAs_of_accepted hcalm hi (OkExec.okRun (execProgramFrequency_ok a.freqL))
  have hn : 7 + freqFaultSteps a a.freqL = 5 + freqFaultSteps a a.freqL + 1 + 1 := by omega
  rw [hn, checkFreq_frame]
  exact h

/-! ## CLOSE_CHIP (R141) -/

theorem busStrobe_okRun (c : Byte) : OkRun 1 [.op (.busStrobe c)] s (s.recordAll [.strobe c]) :=
  OkExec.okRun (execBusStrobe_ok c)

theorem setChipMode_okRun (c : ChipMode) : OkRun 1 [.setChipMode c] s { s with chipMode := c } :=
  OkExec.okRun (.write id fun _ _ => rfl)

theorem runScript_bus_err {x : BusTxn} {ms : List Move} (hr : s.rst = false) (hx : s.bus = some x)
    (hw : s.busWait = 0) :
    runScript (.bus .err :: ms) s = runScript ms { s.raiseFault .busFault .bus with bus := none } := by
  have hdue := busMove_due (s := { s with script := ms }) .err (by simp [hx]) hw
  rw [runScript_cons, stepMove, if_neg (by simp [hr]), hdue]
  rfl

/-- A strobe that completes with `err` (R120). -/
theorem runScript_strobe_err (hs : Running s) (c : Byte) (rest : List Micro) (ms : List Move) :
    runScript (.seq :: .bus .err :: ms) { s with seq := .op (.busStrobe c) :: rest } =
      runScript ms { (s.recordAll [.strobe c]).raiseFault .busFault .bus with seq := rest } := by
  have hissue := busIssue_untimed (s := { s with seq := rest, script := .bus .err :: ms }) (.strobe c) hs.untimed hs.bus
  calc runScript (.seq :: .bus .err :: ms) { s with seq := .op (.busStrobe c) :: rest }
      = runScript (.bus .err :: ms) { s.recordAll [.strobe c] with seq := rest, bus := some (.strobe c) } :=
        runScript_seq (s := { s with seq := .op (.busStrobe c) :: rest }) hs rfl hissue
    _ = runScript ms { (s.recordAll [.strobe c]).raiseFault .busFault .bus with seq := rest, bus := none } :=
        runScript_bus_err hs.rst rfl hs.busWait
    _ = runScript ms { (s.recordAll [.strobe c]).raiseFault .busFault .bus with seq := rest } :=
        congrArg (runScript ms)
          (State.bus_eta (s := { (s.recordAll [.strobe c]).raiseFault .busFault .bus with seq := rest }) hs.bus)

/-- CLOSE_CHIP after its strobe. -/
theorem runScript_closeWrites (hs : Running s) :
    runScript [.seq, .seq] { s with seq := [.setChipMode .idle, .clearBusy] } =
      .next { s with seq := [], chipMode := .idle, busy := false, script := [] } :=
  calc runScript [.seq, .seq] { s with seq := [.setChipMode .idle, .clearBusy] }
      = runScript [.seq] { s with seq := [.clearBusy], chipMode := .idle } :=
        runScript_seq (s := { s with seq := [.setChipMode .idle, .clearBusy] }) hs rfl rfl
    _ = runScript [] { s with seq := [], chipMode := .idle, busy := false } :=
        runScript_seq (s := { s with seq := [.clearBusy], chipMode := .idle }) hs rfl rfl
    _ = .next { s with seq := [], chipMode := .idle, busy := false, script := [] } := runScript_nil _

/-- Settles O29: the strobe completes with `ok` or with `err`, and the two writes follow either way. -/
theorem closeChipRunsToItsEnd : Obligations.CloseChipRunsToItsEnd := by
  intro s hcalm hb a u
  have hi : exec .closeChip s =
      .next { a with seq := [.op (.busStrobe a.cfg.strobeSidle), .setChipMode .idle] ++ [.clearBusy] } :=
    exec_accepted (by decide) hb (by cases s.chipMode <;> rfl)
  have hok := (busStrobe_okRun (s := a) a.cfg.strobeSidle).append (setChipMode_okRun .idle)
  have ha : Running a := ⟨hcalm, rfl⟩
  refine ⟨completesAs_of_accepted hcalm hi hok, _, hi, ?_⟩
  exact (runScript_strobe_err ha a.cfg.strobeSidle [.setChipMode .idle, .clearBusy] [.seq, .seq]).trans
    (runScript_closeWrites (s := (a.recordAll [.strobe a.cfg.strobeSidle]).raiseFault .busFault .bus) ha)

/-! ## INIT_CHIP (R140) -/

theorem tableWrites_okRun (t : List (RadioAddr × Byte)) :
    OkRun t.length (tableWrites t) s (s.recordAll (t.map fun e => .write e.1 [e.2])) := by
  induction t generalizing s with
  | nil => simpa [tableWrites] using OkRun.nil s
  | cons e t ih =>
    have hwrite : OkRun 1 [.op (.busWrite e.1 [e.2])] s (s.recordAll [.write e.1 [e.2]]) :=
      OkExec.okRun (execBusWrite_ok e.1 e.2 [])
    have h := hwrite.append ih
    rw [State.recordAll_recordAll, Nat.add_comm] at h
    exact h

theorem setPaEn_okRun (v : Bool) : OkRun 1 [.setPaEn v] s { s with paEn := v } :=
  OkExec.okRun (.write id fun _ _ => rfl)

theorem setLnaEn_okRun (v : Bool) : OkRun 1 [.setLnaEn v] s { s with lnaEn := v } :=
  OkExec.okRun (.write id fun _ _ => rfl)

theorem recordFe_okRun : OkRun 1 [.recordFe] s (s.recordAll [.frontEnd s.paEn s.lnaEn]) :=
  OkExec.okRun (.write id fun _ _ => rfl)

/-- The lines of the front-end and their event, where one is present (R36). -/
theorem frontEndWrites_okRun (fe : Bool) (m : RadioMode) : OkRun (if fe then 3 else 0) (frontEndWrites fe m) s
    { s with
      paEn := if fe then decide (m = .tx) else s.paEn, lnaEn := if fe then decide (m = .rx) else s.lnaEn
      hist := s.hist ++ (if fe then [.frontEnd (decide (m = .tx)) (decide (m = .rx))] else []) } := by
  cases fe with
  | true => exact ((setPaEn_okRun (m == .tx)).append (setLnaEn_okRun (m == .rx))).append recordFe_okRun
  | false => simpa [frontEndWrites] using OkRun.nil s

theorem setRxIrqEn_okRun : OkRun 1 [.setRxIrqEn] s { s with rxIrqEn := true } :=
  OkExec.okRun (.write id fun _ _ => rfl)

theorem recordIrqEn_okRun : OkRun 1 [.recordIrqEn] s (s.recordAll [.irqEn true]) :=
  OkExec.okRun (.write id fun _ _ => rfl)

theorem rxIrqWrites_okRun (m : RadioMode) : OkRun (if m = .rx then 2 else 0) (rxIrqWrites m) s
    { s with
      rxIrqEn := if m = .rx then true else s.rxIrqEn
      hist := s.hist ++ (if m = .rx then [.irqEn true] else []) } := by
  cases m with
  | tx => simpa [rxIrqWrites] using OkRun.nil s
  | rx => exact setRxIrqEn_okRun.append recordIrqEn_okRun

theorem setRadioState_okRun (m : RadioMode) : OkRun 1 [.setRadioState m] s { s with radioState := m } :=
  OkExec.okRun (.write id fun _ _ => rfl)

theorem readyMode_eq (m : RadioMode) : readyMode m = if m = .tx then .txReady else .rxReady := by
  cases m <;> rfl

/-- INIT_CHIP up to the frequency: the strobes, the register table and ProgramFrequency. -/
def configWrites (s : State) (m : RadioMode) : List Micro :=
  [.op (.busStrobe s.cfg.strobeSres), .op (.busStrobe s.cfg.strobeSidle)] ++ tableWrites (s.modeTable m) ++
    [.op (.programFrequency s.freqL)]

/-- INIT_CHIP from the lines of the front-end to the write of CHIP_MODE. -/
def readyWrites (fe : Bool) (m : RadioMode) : List Micro :=
  frontEndWrites fe m ++ rxIrqWrites m ++ [.setRadioState m, .setChipMode (readyMode m)]

theorem initChipProgram_split (m : RadioMode) (s : State) :
    initChipProgram m s = configWrites s m ++ readyWrites s.frontEnd m ++ [.clearBusy] := by
  simp [initChipProgram, configWrites, readyWrites]

theorem configWrites_okRun (m : RadioMode) :
    OkRun (8 + (s.modeTable m).length + freqFaultSteps s s.freqL) (configWrites s m) s
      { s with
        err := (checkFreq s s.freqL).err, faults := (checkFreq s s.freqL).faults
        freqQ := freqWord (s.freqInt s.freqL), freqReg := freqWord (s.freqInt s.freqL)
        hist := s.hist ++ [.strobe s.cfg.strobeSres, .strobe s.cfg.strobeSidle] ++
          (s.modeTable m).map (fun e => .write e.1 [e.2]) ++ programFrequencyEvents s s.freqL } := by
  have hstrobes := (busStrobe_okRun (s := s) s.cfg.strobeSres).append (busStrobe_okRun s.cfg.strobeSidle)
  rw [State.recordAll_recordAll] at hstrobes
  have htable := hstrobes.append (tableWrites_okRun (s.modeTable m))
  have h := htable.append (OkExec.okRun (m := .op (.programFrequency s.freqL)) (execProgramFrequency_ok s.freqL))
  have hn : 8 + (s.modeTable m).length + freqFaultSteps s s.freqL =
      1 + 1 + (s.modeTable m).length + (5 + freqFaultSteps s s.freqL + 1) := by omega
  rw [checkFreq_recordAll, checkFreq_recordAll] at h
  rw [hn]
  exact h

theorem readyWrites_okRun (fe : Bool) (m : RadioMode) :
    OkRun ((if fe then 3 else 0) + (if m = .rx then 2 else 0) + 2) (readyWrites fe m) s
      { s with
        paEn := if fe then decide (m = .tx) else s.paEn, lnaEn := if fe then decide (m = .rx) else s.lnaEn
        rxIrqEn := if m = .rx then true else s.rxIrqEn
        radioState := m, chipMode := if m = .tx then .txReady else .rxReady
        hist := s.hist ++ (if fe then [.frontEnd (decide (m = .tx)) (decide (m = .rx))] else []) ++
          (if m = .rx then [.irqEn true] else []) } := by
  rw [← readyMode_eq]
  exact ((frontEndWrites_okRun fe m).append (rxIrqWrites_okRun m)).append
    ((setRadioState_okRun m).append (setChipMode_okRun (readyMode m)))

/-- Settles O28: the configuration, the lines and the modes one after another. -/
theorem initChipRunsToItsEnd : Obligations.InitChipRunsToItsEnd := by
  intro s m hcalm hb a
  have hi : exec (.initChip m) s =
      .next { a with seq := configWrites a m ++ readyWrites a.frontEnd m ++ [.clearBusy] } := by
    rw [← initChipProgram_split]
    exact exec_accepted (by cases m <;> decide) hb (by cases s.chipMode <;> rfl)
  have h := completesAs_of_accepted hcalm hi ((configWrites_okRun m).append (readyWrites_okRun a.frontEnd m))
  have hn : 11 + (a.modeTable m).length + freqFaultSteps a a.freqL + (if a.frontEnd then 3 else 0) +
      (if m = .rx then 2 else 0) = 8 + (a.modeTable m).length + freqFaultSteps a a.freqL +
        ((if a.frontEnd then 3 else 0) + (if m = .rx then 2 else 0) + 2) + 1 := by omega
  rw [hn, checkFreq_frame]
  exact h

end Sys2Proof.Machine
end

section
/-! SUPPORT. The bit-rate timer: TIMER_START, TIMER_STOP, TICK, and its moves in both readings (41_bit_rate_timer.md R170 to
R176). -/

namespace Sys2Proof.Machine

open Sys2Proof.Safety

variable {s : State} {ms : List Move}

/-! ## TIMER_START and TIMER_STOP (R170, R171) -/

theorem setTmrCount_okRun (v : BitVec 16) : OkRun 1 [.setTmrCount v] s { s with tmrCount := v } :=
  OkExec.okRun (.write id fun _ _ => rfl)

theorem setArmed_okRun : OkRun 1 [.setArmed] s { s with tmrArmed := true } := OkExec.okRun (.write id fun _ _ => rfl)

theorem execTimerStart_ok : OkExec (exec .timerStart) 2 s
    { s with tmrPeriodL := s.tickPeriod, tmrCount := s.cfg.tickSeed, tmrArmed := true } :=
  .places (t := { s with tmrPeriodL := s.tickPeriod }) id (fun _ _ => rfl)
    ((setTmrCount_okRun s.cfg.tickSeed).append setArmed_okRun)

theorem execTimerStop_ok : OkExec (exec .timerStop) 1 s { s with tmrArmed := false, tmrCount := 0#16 } :=
  .places (t := { s with tmrArmed := false }) id (fun _ _ => rfl) (setTmrCount_okRun 0#16)

/-- Settles O22: the first write is the first micro-step of the call, the others are placed on SEQ. -/
theorem timerStartArmsAndTimerStopDisarms : Obligations.TimerStartArmsAndTimerStopDisarms :=
  fun _ hcalm hbusy => ⟨execTimerStart_ok.completesAs ⟨hcalm, hbusy⟩, execTimerStop_ok.completesAs ⟨hcalm, hbusy⟩⟩

/-! ## TICK (R176) -/

theorem noteTick_consumed (h : s.sysState = .txWaiting) : s.noteTick = s.record .tick := by
  rw [State.noteTick, h]

theorem noteTick_absorbed (h : s.sysState ≠ .txWaiting) : s.noteTick = s.raise .tickAbsorbed := by
  unfold State.noteTick
  split
  · exact absurd ‹_› h
  all_goals rfl

theorem tickTarget_txWaiting (g : TickGating) : tickTarget g .txWaiting = .txProcessing := by
  cases g <;> rfl

theorem tickTarget_gated {v : SysState} (h : v ≠ .txWaiting) : tickTarget .gated v = v := by
  cases v with
  | txWaiting => exact absurd rfl h
  | idle | txStart | txProcessing | txEnd => rfl

/-- Settles O23: what a tick notes, and where it takes SYS_STATE, by whether SYS_STATE is TxWaiting. -/
theorem tickIsConsumedOnlyInTxWaiting : Obligations.TickIsConsumedOnlyInTxWaiting := by
  intro s
  refine ⟨fun h => ?_, fun h hg => ?_, fun h hl => ?_⟩ <;> rw [exec, execTick]
  · rw [noteTick_consumed h, h, tickTarget_txWaiting]
    rfl
  · rw [noteTick_absorbed h, hg, tickTarget_gated h]
    rfl
  · rw [noteTick_absorbed h, hl]
    rfl

/-! ## The clock's and the timer's moves (R174, R175) -/

theorem step_tclk (hr : s.rst = false) (hs : s.script = .tclk :: ms) : step s = tclkMove { s with script := ms } := by
  rw [step_scheduled hs, stepMove, if_neg (by simp [hr])]

theorem step_tick (hr : s.rst = false) (hs : s.script = .tick :: ms) : step s = tickMove { s with script := ms } := by
  rw [step_scheduled hs, stepMove, if_neg (by simp [hr])]

theorem tclkMove_untimed (h : s.cfg.reading = .untimed) : tclkMove s = .next s := by
  rw [tclkMove, h]

theorem tclkMove_timed (h : s.cfg.reading = .timed) : tclkMove s = clockEdge s := by
  rw [tclkMove, h]

theorem tickMove_untimed (h : s.cfg.reading = .untimed) :
    tickMove s = if s.tmrArmed then exec .tick s else .next s := by
  rw [tickMove, h]

theorem clockEdge_disarmed (h : s.tmrArmed = false) : clockEdge s = .next s.countWaits :=
  if_neg (by simp [h])

theorem clockEdge_counts (h : s.tmrArmed = true) (hc : s.tmrCount ≠ 0#16) :
    clockEdge s = .next { s.countWaits with tmrCount := s.tmrCount - 1#16 } :=
  (if_pos h).trans (if_neg hc)

theorem clockEdge_reloads (h : s.tmrArmed = true) (hc : s.tmrCount = 0#16) :
    clockEdge s = exec .tick { s.countWaits with tmrCount := s.tmrPeriodL - 1#16 } :=
  (if_pos h).trans (if_pos hc)

/-- Settles O24: the edge by TMR_ARMED, and then by whether TMR_COUNT is 0. -/
theorem clockEdgeCountsDownAndReloads : Obligations.ClockEdgeCountsDownAndReloads := by
  intro s ms hr ht hs e
  have hstep : step s = clockEdge { s with script := ms } := (step_tclk hr hs).trans (tclkMove_timed ht)
  exact ⟨fun hd => hstep.trans (clockEdge_disarmed hd), fun ha hc => hstep.trans (clockEdge_counts ha hc),
    fun ha hc => hstep.trans (clockEdge_reloads ha hc)⟩

/-- Settles O25: the timer's move by TMR_ARMED; the clock's is nothing. -/
theorem untimedTimerTicksOnlyWhileArmed : Obligations.UntimedTimerTicksOnlyWhileArmed := by
  intro s ms hr hu
  have htick (hs : s.script = .tick :: ms) := (step_tick hr hs).trans (tickMove_untimed hu)
  refine ⟨fun hs ha => ?_, fun hs hd => ?_, fun hs => ?_⟩
  · exact (htick hs).trans (if_pos ha)
  · exact (htick hs).trans (if_neg (by simp [hd]))
  · exact (step_tclk hr hs).trans (tclkMove_untimed hu)

end Sys2Proof.Machine
end

section
/-! SUPPORT. DISPATCH and the bit at the cursor (42_tx_state_machine.md R193, R197). -/

namespace Sys2Proof.Machine

variable {s : State}

/-! ## DISPATCH (R197) -/

theorem dispatchStep_txStart (h : s.sysState = .txStart) : dispatchStep s = .next (s.before txStartBody) := by
  rw [dispatchStep, h]

theorem dispatchStep_txWaiting (h : s.sysState = .txWaiting) : dispatchStep s = .next (s.before [.dispatch]) := by
  rw [dispatchStep, h]

theorem dispatchStep_txProcessing (h : s.sysState = .txProcessing) : dispatchStep s = .next (s.before txProcBody) := by
  rw [dispatchStep, h]

theorem dispatchStep_txEnd (h : s.sysState = .txEnd) : dispatchStep s = .next (s.before txEndBody) := by
  rw [dispatchStep, h]

theorem dispatchStep_idle (h : s.sysState = .idle) : dispatchStep s = .fault .dispatchIdle := by
  rw [dispatchStep, h]

/-- Settles O39: the step is DISPATCH on the rest of SEQ, by SYS_STATE. -/
theorem dispatchFollowsSysState : Obligations.DispatchFollowsSysState := by
  intro s ms rest hr hs hf hq
  have hstep : step s = dispatchStep { s with script := ms, seq := rest } := step_seq hs hr hf hq
  refine ⟨fun h => hstep.trans (dispatchStep_txStart h), fun h => (hstep.trans (dispatchStep_txWaiting h)).trans ?_,
    fun h => hstep.trans (dispatchStep_txProcessing h), fun h => hstep.trans (dispatchStep_txEnd h),
    fun h => hstep.trans (dispatchStep_idle h)⟩
  simp [State.before, hq]

/-! ## The bit at the cursor (R193) -/

theorem bitByteIndex_eq_div (i : BitVec 11) : bitByteIndex i = i.toNat / 8 := Nat.shiftRight_eq_div_pow i.toNat 3

theorem bitOfByte_eq_getLsbD (b : Byte) (i : BitVec 11) : bitOfByte b i = b.getLsbD (7 - i.toNat % 8) := by
  rw [bitOfByte, show (7 : Nat) = 2 ^ 3 - 1 from rfl, Nat.and_two_pow_sub_one_eq_mod]

theorem cursorBit_of_some {b : Byte} (h : s.txbuf.read (s.bitIndex.toNat / 8) = some b) :
    cursorBit s = (b.getLsbD (7 - s.bitIndex.toNat % 8), s) := by
  rw [← bitByteIndex_eq_div] at h
  rw [cursorBit, readTx_of_some h, bitOfByte_eq_getLsbD]

theorem cursorBit_of_none (h : s.txbuf.read (s.bitIndex.toNat / 8) = none) :
    (cursorBit s).2 = s.recordFault .unwritten := by
  rw [← bitByteIndex_eq_div] at h
  rw [cursorBit, readTx_of_none h]

/-- Settles O36: by whether the byte of the cursor holds a value. -/
theorem cursorBitIsMsbFirst : Obligations.CursorBitIsMsbFirst := fun _ =>
  ⟨fun _ => cursorBit_of_some, cursorBit_of_none⟩

end Sys2Proof.Machine
end

section
/-! SUPPORT. Runs over `okSchedule` by the whole of SEQ, and the bodies of SEND
(42_tx_state_machine.md R190, R191, R196). -/

namespace Sys2Proof.Machine

open Sys2Proof.Safety

variable {s t u : State} {n k : Nat} {rest : List Micro}

/-! ## Micro-steps that replace the rest of SEQ -/

/-- From `s`, `n` micro-steps and their completions lead to `t`, however many micro-steps follow. `OkRun` says it of the
statements at the head of SEQ; DISPATCH and the head of TXPROC_BODY are followed by what they place. -/
def OkSteps (n : Nat) (s t : State) : Prop :=
  Running s → Running t ∧ ∀ k, runScript (okSchedule (k + n)) s = runScript (okSchedule k) t

theorem OkSteps.trans (hst : OkSteps n s t) (htu : OkSteps k t u) : OkSteps (n + k) s u := fun hs => by
  obtain ⟨ht, hrun⟩ := hst hs
  obtain ⟨hu, hrun'⟩ := htu ht
  exact ⟨hu, fun j => by rw [← hrun' j, ← hrun (j + k), Nat.add_assoc, Nat.add_comm n k]⟩

theorem OkRun.steps {ms : List Micro} (h : OkRun n ms s t) (rest : List Micro) :
    OkSteps n { s with seq := ms ++ rest } { t with seq := rest } := fun hs => by
  obtain ⟨ht, hrun⟩ := h hs
  exact ⟨ht, hrun rest⟩

/-- A statement whose micro-step is `f` with the statements `after` in place of the rest of SEQ. -/
theorem OkExec.steps {f : State → Result} {m : Micro} {after : List Micro} (h : OkExec f n s t)
    (hm : ∀ ms, microStep m { s with seq := rest, script := ms } = f { s with seq := after, script := ms }) :
    OkSteps (n + 1) { s with seq := m :: rest } { t with seq := after } := fun hs => by
  obtain ⟨u, pre, hu, hfirst, hrest⟩ := h hs
  obtain ⟨ht, hrun⟩ := hrest hu
  refine ⟨ht, fun k => ?_⟩
  have hs' : Running s := hs
  calc runScript (okSchedule (k + (n + 1))) { s with seq := m :: rest }
      = runScript (.seq :: okSchedule (k + n)) { s with bus := none, seq := m :: rest } :=
        runScript_bus_ok (s := { s with seq := m :: rest }) hs'.rst hs'.busWait
    _ = runScript (.seq :: okSchedule (k + n)) { s with seq := m :: rest } := by rw [hs'.bus]
    _ = runScript (okSchedule (k + n)) { u with seq := pre ++ after } :=
        runScript_seq hs rfl ((hm _).trans (hfirst after _))
    _ = runScript (okSchedule (k + n)) { u with bus := none, seq := pre ++ after } :=
        runScript_okSchedule_completed (s := { u with seq := pre ++ after }) (k + n) hu.rst hu.busWait
    _ = runScript (okSchedule k) { t with seq := after } := hrun after k

/-- A statement whose micro-step issues nothing. -/
theorem okSteps_next {m : Micro} {after : List Micro} (ht : Running s → Running t)
    (hm : ∀ ms, microStep m { s with seq := rest, script := ms } = .next { t with seq := after, script := ms }) :
    OkSteps 1 { s with seq := m :: rest } { t with seq := after } :=
  OkExec.steps (f := fun x => .next { t with seq := x.seq, script := x.script }) (.write ht fun _ _ => rfl) hm

theorem OkSteps.runScript (h : OkSteps n s t) (hs : Running s) :
    runScript (okSchedule n) s = .next { t with script := [] } := by
  obtain ⟨ht, hrun⟩ := h hs
  rw [← Nat.zero_add n, hrun 0, runScript_okSchedule_zero ht.rst ht.busWait, ht.bus]

/-- `BUSY <- 0` at the end of a run. -/
theorem OkSteps.runScript_clearBusy (h : OkSteps n s { t with seq := [.clearBusy] }) (hs : Running s) :
    Safety.runScript (okSchedule (n + 1)) s = .next { t with busy := false, seq := [], script := [] } := by
  obtain ⟨ht, hrun⟩ := h hs
  have ht' : Running t := ht
  calc Safety.runScript (okSchedule (n + 1)) s
      = Safety.runScript (okSchedule 1) { t with seq := [.clearBusy] } := by rw [← hrun, Nat.add_comm]
    _ = Safety.runScript (.seq :: okSchedule 0) { t with bus := none, seq := [.clearBusy] } :=
        runScript_bus_ok (s := { t with seq := [.clearBusy] }) ht'.rst ht'.busWait
    _ = Safety.runScript (.seq :: okSchedule 0) { t with seq := [.clearBusy] } := by rw [ht'.bus]
    _ = Safety.runScript (okSchedule 0) { t with busy := false, seq := [] } := runScript_seq ht rfl rfl
    _ = .next { t with busy := false, seq := [], bus := none, script := [] } :=
        runScript_okSchedule_zero (s := { t with busy := false, seq := [] }) ht'.rst ht'.busWait
    _ = .next { t with busy := false, seq := [], script := [] } := by rw [ht'.bus]

/-- DISPATCH puts the body of SYS_STATE in its own place (R197). -/
theorem dispatch_okSteps {body : List Micro}
    (h : ∀ u : State, u.sysState = s.sysState → dispatchStep u = .next (u.before body)) (rest : List Micro) :
    OkSteps 1 { s with seq := .dispatch :: rest } { s with seq := body ++ rest } :=
  okSteps_next id fun _ => h _ rfl

/-! ## TXSTART_BODY (R191) -/

theorem setSysState_okRun (v : SysState) : OkRun 1 [.setSysState v] s { s with sysState := v } :=
  OkExec.okRun (.write id fun _ _ => rfl)

theorem clearBitIndex_okRun : OkRun 1 [.clearBitIndex] s { s with bitIndex := 0#11 } :=
  OkExec.okRun (.write id fun _ _ => rfl)

theorem setBitTotal_okRun : OkRun 1 [.setBitTotal] s { s with bitTotal := 8#11 * s.curLen.setWidth 11 } :=
  OkExec.okRun (.write id fun _ _ => rfl)

theorem leaveTxStart_okRun : OkRun 1 [.leaveTxStart] s
    { s with sysState := if s.bitTotal = 0#11 then .txEnd else .txWaiting } :=
  OkExec.okRun (.write id fun _ _ => rfl)

theorem carrierUp_okRun (h : s.rampTable ≠ []) :
    OkRun (2 * s.rampTable.length + (if s.cfg.carrierStrobes then 1 else 0)) [.op .carrierUp] s
      (s.recordAll (carrierUpEvents s)) := by
  have hpos := ramp_steps_pos h
  refine OkExec.okRun_of_pos (by omega) ?_
  rw [Nat.sub_add_comm (by omega)]
  exact execCarrierUp_ok h

theorem carrierDown_okRun (h : s.rampTable ≠ []) :
    OkRun (2 * s.rampTable.length + (if s.cfg.carrierStrobes then 1 else 0)) [.op .carrierDown] s
      (s.recordAll (carrierDownEvents s)) := by
  have hpos := ramp_steps_pos h
  refine OkExec.okRun_of_pos (by omega) ?_
  rw [Nat.sub_add_comm (by omega)]
  exact execCarrierDown_ok h

/-- What TXSTART_BODY leaves: the cursor at the start, the carrier up, the timer armed. -/
def State.txStarted (s : State) : State :=
  { s with
    sysState := if 8#11 * s.curLen.setWidth 11 = 0#11 then .txEnd else .txWaiting
    bitIndex := 0#11, bitTotal := 8#11 * s.curLen.setWidth 11
    tmrPeriodL := s.tickPeriod, tmrCount := s.cfg.tickSeed, tmrArmed := true
    hist := s.hist ++ carrierUpEvents s }

/-- SEND from its first statement to the DISPATCH after TXSTART_BODY. -/
theorem txStart_okSteps (h : s.rampTable ≠ []) :
    OkSteps (2 * s.rampTable.length + 8 + (if s.cfg.carrierStrobes then 1 else 0)) { s with seq := sendProgram }
      { s.txStarted with seq := [.dispatch] } := by
  have henter := (setSysState_okRun (s := s) .txStart).steps [.dispatch]
  have hplace : OkSteps 1 { s with sysState := .txStart, seq := [.dispatch] }
      { s with sysState := .txStart, seq := txStartBody } :=
    dispatch_okSteps (s := { s with sysState := .txStart }) (fun _ => dispatchStep_txStart) []
  have hbody := ((((clearBitIndex_okRun (s := { s with sysState := .txStart })).append setBitTotal_okRun).append
    (carrierUp_okRun h)).append (OkExec.okRun (m := .op .timerStart) execTimerStart_ok)).append leaveTxStart_okRun
  have hn : 2 * s.rampTable.length + 8 + (if s.cfg.carrierStrobes then 1 else 0) =
      1 + 1 + (1 + 1 + (2 * s.rampTable.length + (if s.cfg.carrierStrobes then 1 else 0)) + (2 + 1) + 1) := by omega
  rw [hn]
  exact (henter.trans hplace).trans (hbody.steps [.dispatch])

/-! ## TXEND_BODY (R196) -/

/-- From DISPATCH in TxEnd to the end of SEND. -/
theorem runScript_txEnd (hs : Running s) (h : s.rampTable ≠ []) (hend : s.sysState = .txEnd) :
    runScript (okSchedule (2 * s.rampTable.length + 4 + (if s.cfg.carrierStrobes then 1 else 0)))
        { s with seq := [.dispatch] } =
      .next { s with
        script := [], busy := false, seq := [], tmrArmed := false, tmrCount := 0#16
        hist := s.hist ++ carrierDownEvents s } := by
  have hplace : OkSteps 1 { s with seq := [.dispatch] } { s with seq := txEndBody } :=
    dispatch_okSteps (fun _ hu => dispatchStep_txEnd (hu.trans hend)) []
  have hbody := (OkExec.okRun (m := .op .timerStop) (execTimerStop_ok (s := s))).append (carrierDown_okRun h)
  have hn : 2 * s.rampTable.length + 4 + (if s.cfg.carrierStrobes then 1 else 0) =
      1 + (1 + 1 + (2 * s.rampTable.length + (if s.cfg.carrierStrobes then 1 else 0))) + 1 := by omega
  rw [hn]
  exact (hplace.trans (hbody.steps [.clearBusy])).runScript_clearBusy hs

end Sys2Proof.Machine
end

section
/-! SUPPORT. SEND of length 0, and TXPROC_BODY within the cursor's range (42_tx_state_machine.md R191, R194, R196). -/

namespace Sys2Proof.Machine

open Sys2Proof.Safety

variable {s : State}

/-! ## SEND of length 0 -/

/-- TXEND_BODY from where TXSTART_BODY has left to DISPATCH with nothing to send. -/
theorem runScript_emptySend (hs : Running s) (h : s.rampTable ≠ []) (hlen : s.curLen = 0#8) :
    runScript (okSchedule (4 * s.rampTable.length + 12 + (if s.cfg.carrierStrobes then 2 else 0)))
        { s with seq := sendProgram } =
      .next { s with
        script := [], busy := false, seq := [], sysState := .txEnd, bitIndex := 0#11, bitTotal := 0#11
        tmrPeriodL := s.tickPeriod, tmrCount := 0#16, tmrArmed := false
        hist := s.hist ++ carrierUpEvents s ++ carrierDownEvents s } := by
  obtain ⟨hstarted, hrun⟩ := txStart_okSteps h hs
  have hn : 4 * s.rampTable.length + 12 + (if s.cfg.carrierStrobes then 2 else 0) =
      2 * s.rampTable.length + 4 + (if s.cfg.carrierStrobes then 1 else 0) +
        (2 * s.rampTable.length + 8 + (if s.cfg.carrierStrobes then 1 else 0)) := by split <;> omega
  have hzero : s.txStarted = { s with
      sysState := .txEnd, bitIndex := 0#11, bitTotal := 0#11, tmrPeriodL := s.tickPeriod, tmrCount := s.cfg.tickSeed
      tmrArmed := true, hist := s.hist ++ carrierUpEvents s } := by simp [State.txStarted, hlen]
  rw [hn, hrun]
  rw [hzero] at hstarted ⊢
  exact runScript_txEnd hstarted h rfl

/-- Settles O33: BIT_TOTAL = 0 takes TXSTART_BODY straight to TXEND_BODY. -/
theorem sendOfLengthZeroRunsToItsEnd : Obligations.SendOfLengthZeroRunsToItsEnd := by
  intro s hcalm hb hchip a htable
  have hexec : exec (.send 0#8) s = .next { a with seq := sendProgram } :=
    exec_accepted (by decide) hb (by rw [hchip]; rfl)
  have hrunning : Running a := ⟨hcalm, rfl⟩
  exact ⟨_, hexec, runScript_emptySend hrunning htable (by decide : lenField 0x0004#16 = 0#8)⟩

/-! ## TXPROC_BODY (R194) -/

theorem incBitIndex_okRun : OkRun 1 [.incBitIndex] s { s with bitIndex := s.bitIndex + 1 } :=
  OkExec.okRun (.write id fun _ _ => rfl)

theorem leaveTxProcessing_okRun : OkRun 1 [.leaveTxProcessing] s
    { s with sysState := if s.bitIndex = s.bitTotal then .txEnd else .txWaiting } :=
  OkExec.okRun (.write id fun _ _ => rfl)

/-- A 1 bit: the increment is the head's own micro-step. -/
theorem processBitStep_one {b : Byte} (hlt : s.bitIndex < s.bitTotal)
    (hread : s.txbuf.read (s.bitIndex.toNat / 8) = some b) (hone : b.getLsbD (7 - s.bitIndex.toNat % 8) = true) :
    processBitStep s =
      .next { s with seq := .leaveTxProcessing :: .dispatch :: s.seq, bitIndex := s.bitIndex + 1 } := by
  rw [processBitStep, if_neg (BitVec.not_le.2 hlt), cursorBit_of_some hread, bitByteIndex_eq_div, hread, hone]
  rfl

/-- A 0 bit: MODULATE's first micro-step. -/
theorem processBitStep_zero {b : Byte} (hlt : s.bitIndex < s.bitTotal)
    (hread : s.txbuf.read (s.bitIndex.toNat / 8) = some b) (hzero : b.getLsbD (7 - s.bitIndex.toNat % 8) = false) :
    processBitStep s = exec .modulate (s.before afterBit) := by
  rw [processBitStep, if_neg (BitVec.not_le.2 hlt), cursorBit_of_some hread, bitByteIndex_eq_div, hread, hzero]

/-- What TXPROC_BODY leaves after the bit `one`: the cursor advanced and, of a 0, the pulse. -/
def State.bitSent (s : State) (one : Bool) : State :=
  { s with
    bitIndex := s.bitIndex + 1
    sysState := if s.bitIndex + 1 = s.bitTotal then .txEnd else .txWaiting
    hist := s.hist ++ (if one then [] else pulseEvents s s.offsetSel)
    offsetSel := if one then s.offsetSel else !s.offsetSel
    modCount := if one then s.modCount else s.modCount + 1 }

theorem processBit_okSteps {b : Byte} {one : Bool} (h : s.rampTable ≠ []) (hradio : s.radioState = .tx)
    (hlt : s.bitIndex < s.bitTotal) (hread : s.txbuf.read (s.bitIndex.toNat / 8) = some b)
    (hbit : b.getLsbD (7 - s.bitIndex.toNat % 8) = one) :
    OkSteps (if one then 2 else 4 * s.rampTable.length + 7) { s with seq := [.processBit] }
      { s.bitSent one with seq := [.dispatch] } := by
  cases one with
  | true =>
    have hinc : OkSteps 1 { s with seq := [.processBit] }
        { s with bitIndex := s.bitIndex + 1, seq := [.leaveTxProcessing, .dispatch] } :=
      okSteps_next (t := { s with bitIndex := s.bitIndex + 1 }) id
        fun ms => processBitStep_one (s := { s with seq := [], script := ms }) hlt hread hbit
    have hleave := (leaveTxProcessing_okRun (s := { s with bitIndex := s.bitIndex + 1 })).steps [.dispatch]
    have hsent : s.bitSent true = { s with
        bitIndex := s.bitIndex + 1, sysState := if s.bitIndex + 1 = s.bitTotal then .txEnd else .txWaiting } := by
      simp [State.bitSent]
    rw [hsent]
    exact hinc.trans hleave
  | false =>
    have hpulse := OkExec.steps (execModulate_ok h) (m := .processBit) (rest := []) (after := afterBit)
      fun ms => processBitStep_zero (s := { s with seq := [], script := ms }) hlt hread hbit
    have hafter := (incBitIndex_okRun.append leaveTxProcessing_okRun).steps (s := { s with
      hist := s.hist ++ pulseEvents s s.offsetSel, offsetSel := !s.offsetSel, modCount := s.modCount + 1 }) [.dispatch]
    have hn : 4 * s.rampTable.length + 7 = 4 * s.rampTable.length + 4 + 0 + 1 + (1 + 1) := by omega
    simp only [if_pos hradio] at hpulse
    rw [if_neg Bool.false_ne_true, hn]
    exact hpulse.trans hafter

/-- Settles O37: the head of TXPROC_BODY by the bit, then the increment and the last statement. -/
theorem eachBitAdvancesTheCursor : Obligations.EachBitAdvancesTheCursor := by
  intro s b hcalm hb h hradio hseq hlt hread one
  have hrun := (processBit_okSteps h hradio hlt hread rfl).runScript ⟨hcalm, hb⟩
  rwa [← hseq] at hrun

end Sys2Proof.Machine
end

section
/-! SUPPORT. TxWaiting is left by a tick alone (42_tx_state_machine.md R192). -/

namespace Sys2Proof.Machine

open Sys2Proof.Safety

variable {s t : State}

/-! ## The host while a command runs -/

/-- While BUSY = 1 a write is dropped, refused or one of ERR, so the machine does not stop. -/
theorem memWrite_next_of_busy (hb : s.busy = true) (off : Offset) (w : Width) (v : Word) :
    ∃ t, memWrite off w v s = .next t := by
  cases hleg : legalAccess off w with
  | false => exact ⟨_, memWrite_illegal hleg⟩
  | true =>
    by_cases hoff : off = 0x004#9
    · subst hoff
      cases w with
      | w8 => cases hleg
      | w16 => exact ⟨_, memWrite_err v s⟩
    · exact ⟨_, memWrite_busy hleg hb hoff⟩

theorem hostStmt_next_of_busy (hb : s.busy = true) (st : HostStmt) : ∃ t, hostStmt st s = .next t := by
  cases st with
  | w16 off v => exact memWrite_next_of_busy hb off .w16 v
  | w8 off v => exact memWrite_next_of_busy hb off .w8 (v.setWidth 16)
  | r16 | r8 => exact ⟨_, rfl⟩
  | poll off mask want => simp only [hostStmt]; split <;> exact ⟨_, rfl⟩

theorem hostMove_next_of_busy (hb : s.busy = true) : ∃ t, hostMove s = .next t := by
  unfold hostMove
  split <;> exact hostStmt_next_of_busy (by exact hb) _

/-! ## TxWaiting -/

/-- SEND waits for a tick, SEQ at DISPATCH, with the history `hist` and the moves `ms` scheduled. -/
structure Waiting (hist : List Event) (ms : List Move) (s : State) : Prop where
  script : s.script = ms
  rst : s.rst = false
  reading : s.cfg.reading = .untimed
  busy : s.busy = true
  bus : s.bus = none
  seq : s.seq = [.dispatch]
  armed : s.tmrArmed = true
  sysState : s.sysState = .txWaiting
  record : s.hist = hist

variable {hist : List Event} {m : Move} {ms : List Move}

/-- A host access, with BUSY = 1, reaches nothing of it. -/
theorem Waiting.of_host (hs : Waiting hist ms s) (h : HostEffect s t) : Waiting hist ms t := by
  obtain ⟨script, rst, reading, busy, bus, seq, armed, sysState, record⟩ := hs
  cases h with
  | note frame grows => rw [frame]; exact ⟨script, rst, reading, busy, bus, seq, armed, sysState, record⟩
  | clearErr v e => rw [e]; exact ⟨script, rst, reading, busy, bus, seq, armed, sysState, record⟩
  | store idle => cases idle.symm.trans busy
  | accept idle => cases idle.symm.trans busy

/-- The sequencer's move runs DISPATCH, which holds it there, or nothing. -/
theorem seqMove_txWaiting {rest : List Micro} (hseq : s.seq = .dispatch :: rest) (h : s.sysState = .txWaiting) :
    seqMove s = .next s := by
  cases hfree : s.sequencerFree with
  | false => exact seqMove_stutters hfree
  | true =>
    have hplaced : { s with seq := rest }.before [.dispatch] = s := by simp [State.before, ← hseq]
    rw [seqMove_next hfree hseq, microStep, dispatchStep_txWaiting (by exact h), hplaced]

/-- Every move but a tick and the `rst` pin leaves SEND waiting. -/
theorem Waiting.stepMove (hs : Waiting hist ms s) (htick : m ≠ .tick) (hrst : ∀ b, m ≠ .rst b) :
    ∃ t, stepMove m s = .next t ∧ Waiting hist ms t := by
  cases m <;> simp only [Machine.stepMove, hs.rst, Bool.false_eq_true, if_false]
  case host =>
    obtain ⟨t, ht⟩ := hostMove_next_of_busy hs.busy
    exact ⟨t, ht, hs.of_host (hostMove_effect ht)⟩
  case seq => exact ⟨s, seqMove_txWaiting hs.seq hs.sysState, hs⟩
  case bus => exact ⟨s, by simp [busMove, hs.bus], hs⟩
  case tick => exact absurd rfl htick
  case tclk => exact ⟨s, tclkMove_untimed hs.reading, hs⟩
  case cycle => exact ⟨s, by rw [cycleMove, hs.reading], hs⟩
  case rst b => exact absurd rfl (hrst b)

/-- The schedule is no part of the state that waits. -/
theorem Waiting.scheduled (hs : Waiting hist ms s) (sc : List Move) : Waiting hist sc { s with script := sc } := by
  obtain ⟨-, rst, reading, busy, bus, seq, armed, sysState, record⟩ := hs
  exact ⟨rfl, rst, reading, busy, bus, seq, armed, sysState, record⟩

/-- A run comes through such moves to those after them with SEND still waiting. -/
theorem Waiting.run {after : List Move} (hs : Waiting hist (ms ++ after) s)
    (hms : ∀ m ∈ ms, m ≠ .tick ∧ ∀ b, m ≠ .rst b) :
    ∃ t, Waiting hist after t ∧ run (ms ++ after).length s = Safety.run after.length t := by
  induction ms generalizing s with
  | nil => exact ⟨s, hs, rfl⟩
  | cons m ms ih =>
    obtain ⟨⟨htick, hrst⟩, hms⟩ := List.forall_mem_cons.1 hms
    obtain ⟨t, hstep, ht⟩ := (hs.scheduled (ms ++ after)).stepMove htick hrst
    obtain ⟨u, hu, hrun⟩ := ih ht hms
    refine ⟨u, hu, ?_⟩
    rw [← hrun, List.cons_append, List.length_cons, run_succ, step_scheduled (ms := ms ++ after) hs.script, hstep,
      andThen]

/-- A tick ends the wait (R176, R192). -/
theorem Waiting.tick (hs : Waiting hist (.tick :: ms) s) :
    step s = .next { s with script := ms, sysState := .txProcessing, hist := hist ++ [.tick] } := by
  rw [step_tick hs.rst hs.script, tickMove_untimed (by exact hs.reading), if_pos (by exact hs.armed), exec, execTick,
    noteTick_consumed (by exact hs.sysState), hs.sysState, tickTarget_txWaiting, ← hs.record]
  rfl

/-- Settles O40: the moves before the tick leave SEND waiting, and the tick ends it. -/
theorem onlyATickEndsTxWaiting : Obligations.OnlyATickEndsTxWaiting := by
  intro s ms hrst hreading hbusy hbus hseq harmed hsys hms
  have hs (sc : List Move) : Waiting s.hist sc { s with script := sc } :=
    ⟨rfl, hrst, hreading, hbusy, hbus, hseq, harmed, hsys, rfl⟩
  constructor
  · obtain ⟨u, hu, hrun⟩ := (hs (ms ++ [])).run hms
    rw [List.append_nil] at hrun
    exact ⟨u, hrun, hu.sysState, hu.seq, hu.record⟩
  · obtain ⟨u, hu, hrun⟩ := (hs (ms ++ [.tick])).run hms
    rw [List.length_singleton, run_succ, hu.tick] at hrun
    exact ⟨_, hrun, rfl, rfl⟩

end Sys2Proof.Machine
end

section
/-! SUPPORT. The moves by which a command runs (`plainMove`) read neither the schedule nor ERR (10_state.md R30), so a
run over such moves can be cut in two, and does not depend on the flags raised before it. -/

namespace Sys2Proof.Machine

open Sys2Proof.Safety

variable {s : State} {f g : State → Result}

/-- The state with the schedule `sc`, and with the flags `e` set in ERR besides. -/
def State.veil (sc : List Move) (e : Word) (s : State) : State := { s with script := sc, err := s.err ||| e }

/-- `f` neither reads the schedule nor ERR, and keeps the one and adds to the other at most. -/
def Blind (f : State → Result) : Prop :=
  ∀ (s : State) (sc : List Move) (e : Word), f (s.veil sc e) = andThen (f s) fun t => .next (t.veil sc e)

theorem veil_zero (sc : List Move) (s : State) : s.veil sc 0#16 = { s with script := sc } := by
  simp [State.veil]

theorem veil_veil (sc sc' : List Move) (e e' : Word) (s : State) :
    (s.veil sc e).veil sc' e' = s.veil sc' (e ||| e') := by
  simp [State.veil, BitVec.or_assoc]

theorem raise_veil (x : ErrFlag) (s : State) (sc : List Move) (e : Word) :
    (s.veil sc e).raise x = (s.raise x).veil sc e := by
  have herr : s.err ||| e ||| x.bit = s.err ||| x.bit ||| e := by
    rw [BitVec.or_assoc, BitVec.or_comm e, ← BitVec.or_assoc]
  exact congrArg (fun w => { s with script := sc, err := w }) herr

/-! ## Rules -/

theorem Blind.next {h : State → State} (hh : ∀ s sc e, h (s.veil sc e) = (h s).veil sc e) :
    Blind fun s => .next (h s) := fun s sc e => congrArg _ (hh s sc e)

theorem Blind.idle : Blind .next := fun _ _ _ => rfl

theorem Blind.ite {c : State → Bool} (hc : ∀ s sc e, c (s.veil sc e) = c s) (hf : Blind f) (hg : Blind g) :
    Blind fun s => if c s then f s else g s := fun s sc e => by
  simp only [hc]
  split
  · exact hf s sc e
  · exact hg s sc e

/-! ## The micro-operations -/

theorem busIssue_blind (x : BusTxn) : Blind (busIssue x) :=
  .ite (c := fun s => s.bus.isSome) (fun _ _ _ => rfl) (.next fun _ _ _ => rfl) (.next fun _ _ _ => rfl)

theorem execBusWrite_blind (a : RadioAddr) (bs : List Byte) : Blind (execBusWrite a bs) :=
  .ite (c := fun _ => bs.isEmpty) (fun _ _ _ => rfl) (fun _ _ _ => rfl) (busIssue_blind (.write a bs))

theorem execDelay_blind (d : DelayId) : Blind (execDelay d) := fun s sc e => by
  cases h : s.cfg.reading with
  | untimed => rw [execDelay_untimed d h, execDelay_untimed (s := s.veil sc e) d h]; rfl
  | timed => rw [execDelay_timed d h, execDelay_timed (s := s.veil sc e) d h]; rfl

theorem startRamp_blind (points : List Byte) : Blind (startRamp points) := by
  cases points with
  | nil => exact fun _ _ _ => rfl
  | cons b rest =>
    exact fun s => execBusWrite_blind s.cfg.addrPa [b]
      (s.before (.op (.delay s.rampDelay) :: rampBody s.cfg.addrPa s.rampDelay rest))

theorem execComputeFreqReg_blind (f : BitVec 32) : Blind (execComputeFreqReg f) :=
  .ite (c := fun s => freqInRange (s.freqInt f)) (fun _ _ _ => rfl) (.next fun _ _ _ => rfl)
    (.next fun s sc e => by rw [raise_veil]; rfl)

theorem execModulate_blind : Blind execModulate := fun s sc e => by
  cases h : s.radioState with
  | tx =>
    rw [execModulate_tx h, execModulate_tx (s := s.veil sc e) h]
    exact startRamp_blind s.rampTable.reverse (s.before s.modulateRest) sc e
  | rx => rw [execModulate_rx h, execModulate_rx (s := s.veil sc e) h]; rfl

theorem execCarrierUp_blind : Blind execCarrierUp :=
  .ite (c := fun s => s.cfg.carrierStrobes) (fun _ _ _ => rfl)
    (fun s => busIssue_blind (.strobe s.cfg.strobeStx) (s.before _)) fun s => startRamp_blind s.rampTable s

theorem noteTick_veil (s : State) (sc : List Move) (e : Word) : (s.veil sc e).noteTick = s.noteTick.veil sc e := by
  by_cases h : s.sysState = .txWaiting
  · rw [noteTick_consumed h, noteTick_consumed (s := s.veil sc e) h]; rfl
  · rw [noteTick_absorbed h, noteTick_absorbed (s := s.veil sc e) h, raise_veil]

theorem execTick_blind : Blind execTick := .next fun s sc e => by rw [noteTick_veil]; rfl

theorem present_blind (i : Instr) (w : Word) {p : State → List Micro} (hp : ∀ s sc e, p (s.veil sc e) = p s) :
    Blind (present i w p) :=
  .ite (c := fun s => s.busy) (fun _ _ _ => rfl) (.next (raise_veil .busyWrite))
    (.ite (c := fun s => !admitted s.chipMode i) (fun _ _ _ => rfl) (.next (raise_veil .mode))
      (.next fun s sc e => congrArg (fun ms => { (s.veil sc e).latch w with seq := ms }) (hp (s.latch w) sc e)))

theorem exec_blind (i : Instr) : Blind (exec i) := by
  cases i with
  | initChip | closeChip | setFreq | send | startCarrier | stopCarrier => exact present_blind _ _ fun _ _ _ => rfl
  | busStrobe c => exact busIssue_blind (.strobe c)
  | busWrite a bs => exact execBusWrite_blind a bs
  | delay d => exact execDelay_blind d
  | rampUp => exact fun s => startRamp_blind s.rampTable s
  | rampDown => exact fun s => startRamp_blind s.rampTable.reverse s
  | writeOffset v => exact fun s => execBusWrite_blind s.cfg.addrFreqOff1 (offsetBytes v) s
  | computeFreqReg f => exact execComputeFreqReg_blind f
  | programFrequency f =>
    exact fun s => execBusWrite_blind s.cfg.addrFreqOff1 (offsetBytes s.offsetNeutral)
      (s.before (programFrequencyRest f))
  | modulate => exact execModulate_blind
  | carrierUp => exact execCarrierUp_blind
  | carrierDown => exact fun s => startRamp_blind s.rampTable.reverse (s.before s.carrierDownRest)
  | timerStart | timerStop => exact .next fun _ _ _ => rfl
  | tick => exact execTick_blind

/-! ## The moves -/

theorem dispatchStep_blind : Blind dispatchStep := fun s sc e => by
  cases h : s.sysState with
  | idle => rw [dispatchStep_idle h, dispatchStep_idle (s := s.veil sc e) h]; rfl
  | txStart => rw [dispatchStep_txStart h, dispatchStep_txStart (s := s.veil sc e) h]; rfl
  | txWaiting => rw [dispatchStep_txWaiting h, dispatchStep_txWaiting (s := s.veil sc e) h]; rfl
  | txProcessing => rw [dispatchStep_txProcessing h, dispatchStep_txProcessing (s := s.veil sc e) h]; rfl
  | txEnd => rw [dispatchStep_txEnd h, dispatchStep_txEnd (s := s.veil sc e) h]; rfl

theorem processBitStep_overrun (h : s.bitTotal ≤ s.bitIndex) :
    processBitStep s = .next ((s.raise .cursorOverrun).before overrunRest) :=
  microStep_processBit_overrun h

/-- A byte that holds no value: the fault is the head's own micro-step, and the bit is free (log 6). -/
theorem processBitStep_unwritten (hlt : s.bitIndex < s.bitTotal)
    (hread : s.txbuf.read (bitByteIndex s.bitIndex) = none) :
    processBitStep s = .next ((s.recordFault .unwritten).before
      (bitBody (bitOfByte (Config.freeByte s.resets (bitByteIndex s.bitIndex)) s.bitIndex))) := by
  rw [processBitStep, if_neg (BitVec.not_le.2 hlt), cursorBit, readTx_of_none hread, hread]

theorem processBitStep_blind : Blind processBitStep := fun s sc e => by
  by_cases hlt : s.bitIndex < s.bitTotal
  · cases hread : s.txbuf.read (s.bitIndex.toNat / 8) with
    | none =>
      rw [← bitByteIndex_eq_div] at hread
      rw [processBitStep_unwritten hlt hread, processBitStep_unwritten (s := s.veil sc e) hlt hread]
      rfl
    | some b =>
      cases hbit : b.getLsbD (7 - s.bitIndex.toNat % 8) with
      | true =>
        rw [processBitStep_one hlt hread hbit, processBitStep_one (s := s.veil sc e) hlt hread hbit]
        rfl
      | false =>
        rw [processBitStep_zero hlt hread hbit, processBitStep_zero (s := s.veil sc e) hlt hread hbit]
        exact exec_blind .modulate (s.before afterBit) sc e
  · rw [BitVec.not_lt] at hlt
    rw [processBitStep_overrun hlt, processBitStep_overrun (s := s.veil sc e) hlt, raise_veil]
    rfl

theorem microStep_blind (m : Micro) : Blind (microStep m) := by
  cases m with
  | op i => exact exec_blind i
  | freqByte k => exact fun s => exec_blind (.busWrite (freqAddr s.cfg k) [freqByteOf s.freqQ k]) s
  | dispatch => exact dispatchStep_blind
  | processBit => exact processBitStep_blind
  | _ => exact .next fun _ _ _ => rfl

theorem seqMove_blind : Blind seqMove := by
  refine .ite (c := State.sequencerFree) (fun _ _ _ => rfl) (fun s sc e => ?_) .idle
  cases h : s.seq with
  | nil => simp [State.veil, h, andThen]
  | cons m rest => simpa [State.veil, h] using microStep_blind m { s with seq := rest } sc e

theorem tickMove_blind : Blind tickMove := fun s sc e => by
  cases h : s.cfg.reading with
  | untimed =>
    rw [tickMove_untimed h, tickMove_untimed (s := s.veil sc e) h]
    exact Blind.ite (c := State.tmrArmed) (fun _ _ _ => rfl) execTick_blind .idle s sc e
  | timed => simp [tickMove, State.veil, h, andThen]

theorem busMove_ok_blind : Blind (busMove .ok) :=
  .ite (c := fun s => s.bus.isSome && s.busWait == 0) (fun _ _ _ => rfl)
    (.next (h := busComplete .ok) fun _ _ _ => rfl) .idle

/-- The sequencer, the timer and the bus responder that completes `ok` are blind to the schedule and to ERR. -/
theorem stepMove_blind {m : Move} (hm : plainMove m = true) : Blind (stepMove m) := by
  have released {f : State → Result} (hf : Blind f) : Blind fun s => if s.rst then .next s else f s :=
    .ite (c := State.rst) (fun _ _ _ => rfl) .idle hf
  cases m with
  | seq => exact released seqMove_blind
  | tick => exact released tickMove_blind
  | bus r =>
    cases r with
    | ok => exact released busMove_ok_blind
    | err => cases hm
  | _ => cases hm

/-! ## Runs -/

/-- A run over plain moves is its first move and the run over the rest, whatever is scheduled. -/
theorem runScript_cons_plain {m : Move} (hm : plainMove m = true) (ms : List Move) (s : State) :
    runScript (m :: ms) s = andThen (stepMove m s) (runScript ms) := by
  rw [runScript_cons, ← veil_zero, stepMove_blind hm]
  cases stepMove m s with
  | next t => simp only [andThen, veil_zero]; rfl
  | fault | refused => rfl

theorem runScript_append {ms : List Move} (hms : ms.all plainMove = true) (ms' : List Move) (s : State) :
    runScript (ms ++ ms') s = andThen (runScript ms s) (runScript ms') := by
  induction ms generalizing s with
  | nil => rfl
  | cons m ms ih =>
    rw [List.all_cons, Bool.and_eq_true] at hms
    rw [List.cons_append, runScript_cons_plain hms.1, runScript_cons_plain hms.1]
    cases stepMove m s with
    | next t => exact ih hms.2 t
    | fault | refused => rfl

end Sys2Proof.Machine
end

section
/-! SUPPORT. A schedule for every SEND (42_tx_state_machine.md R198, R199): a tick for each bit, and otherwise
micro-steps and completions. -/

namespace Sys2Proof.Machine

open Sys2Proof.Safety

variable {s t u : State} {n : Nat} {one : Bool} {bs : List Bool}

/-! ## Schedules of plain moves -/

/-- Some schedule of micro-steps, ticks and `ok` completions leads from `s` to `t`. -/
def Sends (s t : State) : Prop := ∃ ms, ms.all plainMove = true ∧ runScript ms s = .next { t with script := [] }

theorem Sends.refl (s : State) : Sends s s := ⟨[], rfl, rfl⟩

theorem Sends.trans (hst : Sends s t) (htu : Sends t u) : Sends s u := by
  obtain ⟨ms, hms, hrun⟩ := hst
  obtain ⟨ms', hms', hrun'⟩ := htu
  refine ⟨ms ++ ms', by rw [List.all_append, hms, hms']; rfl, ?_⟩
  rw [runScript_append hms, hrun]
  exact hrun'

theorem okSchedule_plain (n : Nat) : (okSchedule n).all plainMove = true := by
  induction n with
  | zero => rfl
  | succ n ih => exact ih

theorem OkSteps.sends (h : OkSteps n s t) (hs : Running s) : Sends s t :=
  ⟨okSchedule n, okSchedule_plain n, h.runScript hs⟩

/-- The consumed tick (R176). -/
def State.ticked (s : State) : State := { s with sysState := .txProcessing, hist := s.hist ++ [.tick] }

theorem Waiting.sends {ms : List Move} (hs : Waiting s.hist ms s) : Sends s s.ticked :=
  ⟨[.tick], rfl, congrArg (andThen · (Safety.run 0)) (hs.scheduled [.tick]).tick⟩

/-! ## The bits of TXBUF (R193) -/

/-- TXBUF holds the bits `bs` from position `i` on. -/
def BitsAt (m : Memory) : Nat → List Bool → Prop
  | _, [] => True
  | i, b :: bs => (∃ x, m.read (i / 8) = some x ∧ x.getLsbD (7 - i % 8) = b) ∧ BitsAt m (i + 1) bs

/-- The eight bits of a byte, and those after it. -/
theorem bitsAt_byte {m : Memory} {k : Nat} {x : Byte} (hread : m.read k = some x) (hbs : BitsAt m (8 * (k + 1)) bs) :
    BitsAt m (8 * k) ([x.getLsbD 7, x.getLsbD 6, x.getLsbD 5, x.getLsbD 4, x.getLsbD 3, x.getLsbD 2, x.getLsbD 1,
      x.getLsbD 0] ++ bs) := by
  have bit (j : Nat) (hj : j < 8) :
      ∃ y, m.read ((8 * k + j) / 8) = some y ∧ y.getLsbD (7 - (8 * k + j) % 8) = x.getLsbD (7 - j) := by
    have hdiv : (8 * k + j) / 8 = k := by omega
    have hmod : (8 * k + j) % 8 = j := by omega
    exact ⟨x, by rw [hdiv, hread], by rw [hmod]⟩
  exact ⟨bit 0 (by decide), bit 1 (by decide), bit 2 (by decide), bit 3 (by decide), bit 4 (by decide),
    bit 5 (by decide), bit 6 (by decide), bit 7 (by decide), hbs⟩

theorem bitsAt_bitsOf {m : Memory} (B : List Byte) (k : Nat) (h : ∀ j < B.length, m.read (k + j) = B[j]?) :
    BitsAt m (8 * k) (bitsOf B) := by
  induction B generalizing k with
  | nil => trivial
  | cons x B ih =>
    refine bitsAt_byte (h 0 (by simp)) (ih (k + 1) fun j hj => ?_)
    rw [Nat.add_assoc, Nat.add_comm 1]
    exact h (j + 1) (by simpa using hj)

theorem length_bitsOf (B : List Byte) : (bitsOf B).length = 8 * B.length := by
  induction B with
  | nil => rfl
  | cons x B ih =>
    rw [bitsOf, List.flatMap_cons, List.length_append, ← bitsOf, ih, List.length_cons]
    simp only [List.length_cons, List.length_nil]
    omega

/-! ## What the bits leave -/

theorem togglesTo_succ (sel : Bool) (z : Nat) : togglesTo sel (z + 1) = togglesTo (!sel) z := by
  unfold togglesTo
  rcases Nat.mod_two_eq_zero_or_one z with h | h <;> simp [Nat.add_mod, h]

/-- The events of the bits depend on the parameters and the latched profile alone. -/
theorem bitEvents_congr (hcfg : t.cfg = s.cfg) (hprof : t.profL = s.profL) (sel : Bool) (bs : List Bool) :
    bitEvents t sel bs = bitEvents s sel bs := by
  have hpulse (sel : Bool) : pulseEvents t sel = pulseEvents s sel := by
    simp [pulseEvents, rampDownEvents, rampUpEvents, rampEvents, offsetEvent, State.rampTable, State.rampDelay,
      State.region, State.regionBit, State.offsetHigh, State.offsetLow, State.offsetNeutral, hcfg, hprof]
  induction bs generalizing sel with
  | nil => rfl
  | cons b bs ih => cases b <;> simp [bitEvents, hpulse, ih]

/-- What the bits `bs` leave when they are sent to the last (R194, R198, R199). -/
def State.bitsSent (s : State) (bs : List Bool) : State :=
  { s with
    sysState := .txEnd, bitIndex := s.bitTotal
    offsetSel := togglesTo s.offsetSel (zeros bs), modCount := s.modCount + BitVec.ofNat 16 (zeros bs)
    hist := s.hist ++ bitEvents s s.offsetSel bs }

/-- One bit, after the tick that it consumes. -/
def State.tickAndBit (s : State) (one : Bool) : State := { s.ticked.bitSent one with seq := [.dispatch] }

theorem bitsSent_tickAndBit (hseq : s.seq = [.dispatch]) (one : Bool) (bs : List Bool) :
    (s.tickAndBit one).bitsSent bs = s.bitsSent (one :: bs) := by
  have hevents (sel : Bool) : bitEvents (s.tickAndBit one) sel bs = bitEvents s sel bs :=
    bitEvents_congr (t := s.tickAndBit one) (s := s) rfl rfl sel bs
  have hhist : (s.tickAndBit one).hist ++ bitEvents s (s.tickAndBit one).offsetSel bs =
      s.hist ++ bitEvents s s.offsetSel (one :: bs) := by
    cases one with
    | true =>
      show s.hist ++ [.tick] ++ [] ++ bitEvents s s.offsetSel bs = _
      simp [bitEvents]
    | false =>
      show s.hist ++ [.tick] ++ pulseEvents s s.offsetSel ++ bitEvents s (!s.offsetSel) bs = _
      simp [bitEvents]
  have hsel : togglesTo (s.tickAndBit one).offsetSel (zeros bs) = togglesTo s.offsetSel (zeros (one :: bs)) := by
    cases one with
    | true => rfl
    | false => rw [zeros, zeros, List.count_cons_self, togglesTo_succ]; rfl
  have hcount : (s.tickAndBit one).modCount + BitVec.ofNat 16 (zeros bs) =
      s.modCount + BitVec.ofNat 16 (zeros (one :: bs)) := by
    cases one with
    | true => rfl
    | false =>
      rw [zeros, zeros, List.count_cons_self, BitVec.ofNat_add, BitVec.add_comm (BitVec.ofNat 16 _),
        ← BitVec.add_assoc]
      rfl
  rw [State.bitsSent, hevents, hhist, hsel, hcount, State.bitsSent, hseq]
  rfl

/-! ## From bit to bit -/

/-- SEND at DISPATCH, between bits, with the bits `bs` still to send. -/
structure AtBits (bs : List Bool) (s : State) : Prop where
  running : Running s
  table : s.rampTable ≠ []
  radio : s.radioState = .tx
  armed : s.tmrArmed = true
  seq : s.seq = [.dispatch]
  sysState : s.sysState = if bs = [] then .txEnd else .txWaiting
  total : s.bitTotal.toNat = s.bitIndex.toNat + bs.length
  bits : BitsAt s.txbuf s.bitIndex.toNat bs

theorem AtBits.sends_bit (hs : AtBits (one :: bs) s) : Sends s (s.tickAndBit one) := by
  obtain ⟨x, hread, hbit⟩ := hs.bits.1
  have hlt : s.bitIndex < s.bitTotal := by
    rw [BitVec.lt_def, hs.total, List.length_cons]
    omega
  have hwait : Waiting s.hist s.script s :=
    ⟨rfl, hs.running.rst, hs.running.untimed, hs.running.2, hs.running.bus, hs.seq, hs.armed, hs.sysState, rfl⟩
  have hdispatch := dispatch_okSteps (s := s.ticked) (fun _ => dispatchStep_txProcessing) []
  have hprocess := processBit_okSteps (s := s.ticked) hs.table hs.radio hlt hread hbit
  have hseq : { s.ticked with seq := [.dispatch] } = s.ticked := by rw [← hs.seq]; rfl
  have hrun := (hdispatch.trans hprocess).sends hs.running
  rw [hseq] at hrun
  exact hwait.sends.trans hrun

theorem AtBits.next (hs : AtBits (one :: bs) s) : AtBits bs (s.tickAndBit one) := by
  obtain ⟨running, table, radio, armed, seq, sysState, total, bits⟩ := hs
  rw [List.length_cons] at total
  have hindex : (s.bitIndex + 1).toNat = s.bitIndex.toNat + 1 := by
    have hlt := s.bitTotal.isLt
    rw [BitVec.toNat_add]
    exact Nat.mod_eq_of_lt (show s.bitIndex.toNat + 1 < 2 ^ 11 by omega)
  have hlast : s.bitIndex + 1 = s.bitTotal ↔ bs = [] := by
    rw [← BitVec.toNat_inj, hindex, total, ← List.length_eq_zero_iff]
    omega
  have htotal : s.bitTotal.toNat = (s.bitIndex + 1).toNat + bs.length := by omega
  have hbits : BitsAt s.txbuf (s.bitIndex + 1).toNat bs := hindex ▸ bits.2
  exact ⟨running, table, radio, armed, rfl, if_congr hlast rfl rfl, htotal, hbits⟩

theorem AtBits.bitsSent_nil (hs : AtBits [] s) : s.bitsSent [] = s := by
  have hend : s.sysState = .txEnd := hs.sysState
  have hindex : s.bitTotal = s.bitIndex := BitVec.eq_of_toNat_eq hs.total
  have hsel : togglesTo s.offsetSel 0 = s.offsetSel := by simp [togglesTo]
  refine Eq.trans ?_ (congrArg₂ (fun v i => { s with sysState := v, bitIndex := i }) hend.symm hindex)
  simp only [State.bitsSent, zeros, List.count_nil, bitEvents, List.append_nil, hsel, BitVec.add_zero]

/-- The bits one after another. -/
theorem AtBits.sends (hs : AtBits bs s) : Sends s (s.bitsSent bs) := by
  induction bs generalizing s with
  | nil => rw [hs.bitsSent_nil]; exact .refl s
  | cons one bs ih =>
    rw [← bitsSent_tickAndBit hs.seq]
    exact hs.sends_bit.trans (ih hs.next)

/-! ## The whole SEND -/

/-- What SEND of the length `len` and the bits `bs` leaves (R198, R199). -/
def State.sent (s : State) (len : Byte) (bs : List Bool) : State :=
  { s with
    script := [], busy := false, seq := [], sysState := .txEnd
    bitIndex := 8#11 * len.setWidth 11, bitTotal := 8#11 * len.setWidth 11
    tmrPeriodL := s.tickPeriod, tmrCount := 0#16, tmrArmed := false
    offsetSel := togglesTo s.offsetSel (zeros bs), modCount := s.modCount + BitVec.ofNat 16 (zeros bs)
    hist := s.hist ++ carrierUpEvents s ++ bitEvents s s.offsetSel bs ++ carrierDownEvents s }

theorem toNat_bitTotal (len : Byte) : (8#11 * len.setWidth 11).toNat = 8 * len.toNat := by
  have hlt := len.isLt
  rw [BitVec.toNat_mul, BitVec.toNat_setWidth, BitVec.toNat_ofNat]
  omega

theorem sends_sent {len : Byte} {B : List Byte} (hs : Running s) (htable : s.rampTable ≠ [])
    (hradio : s.radioState = .tx) (hcur : s.curLen = len) (hlen : B.length = len.toNat) (hbuf : bufferHolds s B) :
    Sends { s with seq := sendProgram } (s.sent len (bitsOf B)) := by
  subst hcur
  have hbits : AtBits (bitsOf B) { s.txStarted with seq := [.dispatch] } := by
    have hempty : 8#11 * s.curLen.setWidth 11 = 0#11 ↔ bitsOf B = [] := by
      rw [← BitVec.toNat_inj, toNat_bitTotal, ← List.length_eq_zero_iff, length_bitsOf, hlen]
      rfl
    have htotal : (8#11 * s.curLen.setWidth 11).toNat = 0 + (bitsOf B).length := by
      rw [toNat_bitTotal, length_bitsOf, hlen, Nat.zero_add]
    have htx : BitsAt s.txbuf (8 * 0) (bitsOf B) := bitsAt_bitsOf B 0 fun j hj => by rw [Nat.zero_add, hbuf j hj]
    exact ⟨hs, htable, hradio, rfl, rfl, if_congr hempty rfl rfl, htotal, htx⟩
  have hend := runScript_txEnd (s := { s.txStarted with seq := [.dispatch] }.bitsSent (bitsOf B)) hs htable rfl
  have hevents : bitEvents { s.txStarted with seq := [.dispatch] } s.offsetSel (bitsOf B) =
      bitEvents s s.offsetSel (bitsOf B) :=
    bitEvents_congr (t := { s.txStarted with seq := [.dispatch] }) (s := s) rfl rfl _ _
  have hlast : Sends ({ s.txStarted with seq := [.dispatch] }.bitsSent (bitsOf B)) (s.sent s.curLen (bitsOf B)) := by
    refine ⟨_, okSchedule_plain _, hend.trans ?_⟩
    rw [State.sent, ← hevents]
    rfl
  exact (((txStart_okSteps htable).sends hs).trans hbits.sends).trans hlast

theorem cmd16_send_eq (len : Byte) : cmd16 len 0#1 0x4#4 = len ++ 0x04#8 := by
  apply BitVec.eq_of_toNat_eq
  rw [toNat_cmd16, toNat_append_eq_add]
  rfl

/-- SEND accepted in TX_READY (R90, R190). -/
theorem exec_send_accepted (len : Byte) (hb : s.busy = false) (hchip : s.chipMode = .txReady) :
    exec (.send len) s = .next { s.latch (len ++ 0x04#8) with seq := sendProgram } :=
  exec_accepted (congrArg some (cmd16_send_eq len)) hb (by rw [hchip]; rfl)

theorem latch_send_curLen (len : Byte) : (s.latch (len ++ 0x04#8)).curLen = len := by
  rw [← cmd16_send_eq, State.latch_curLen, lenField_cmd16]

/-- Settles O34: the schedule of `sends_sent`. -/
theorem sendCompletesUnderSomeSchedule : Obligations.SendCompletesUnderSomeSchedule := by
  intro s len B sel0 hcalm hlaunch _ a htable
  obtain ⟨-, hb, -, hchip, hradio, -, hlen, hbuf, rfl⟩ := hlaunch
  obtain ⟨ms, hms, hrun⟩ := sends_sent (s := a) ⟨hcalm, rfl⟩ htable hradio (latch_send_curLen len) hlen hbuf
  exact ⟨_, ms, exec_send_accepted len hb hchip, hms, hrun⟩

end Sys2Proof.Machine
end

section
/-! SUPPORT. SEND's wait for a tick as an invariant (42_tx_state_machine.md R192): SYS_STATE is TxWaiting only where SEQ
stands at DISPATCH, which leaves nothing but the tick to move. -/

namespace Sys2Proof.Machine

open Sys2Proof.Safety

variable {s t : State} {m : Micro} {pre rest : List Micro}

/-! ## What a micro-operation places -/

/-- A statement that may write TxWaiting to SYS_STATE. -/
def writesTxWaiting : Micro → Bool
  | .leaveTxStart | .leaveTxProcessing | .setSysState .txWaiting => true
  | _ => false

/-- No statement that may write TxWaiting is placed before the rest of SEQ. -/
def PlacesNoWait (s t : State) : Prop := ∃ pre, t.seq = pre ++ s.seq ∧ ∀ m ∈ pre, writesTxWaiting m = false

theorem PlacesNoWait.of_seq (h : t.seq = s.seq) : PlacesNoWait s t := ⟨[], h, by simp⟩

theorem PlacesNoWait.of_before (hpre : ∀ m ∈ pre, writesTxWaiting m = false) (h : PlacesNoWait (s.before pre) t) :
    PlacesNoWait s t := by
  obtain ⟨pre', hseq, hpre'⟩ := h
  refine ⟨pre' ++ pre, by simpa using hseq, fun m hm => ?_⟩
  exact (List.mem_append.1 hm).elim (hpre' m) (hpre m)

theorem busIssue_placesNoWait {x : BusTxn} (h : busIssue x s = .next t) : PlacesNoWait s t := by
  obtain ⟨_, rfl⟩ | ⟨_, rfl⟩ := busIssue_cases h
  · exact .of_seq rfl
  · exact .of_before (pre := [.op x.instr]) (by simp [writesTxWaiting]) (.of_seq rfl)

theorem execBusWrite_placesNoWait {a : RadioAddr} {bs : List Byte} (h : execBusWrite a bs s = .next t) :
    PlacesNoWait s t := by
  unfold execBusWrite at h
  split at h
  · cases h
  · exact busIssue_placesNoWait h

theorem execWriteOffset_placesNoWait {v : BitVec 16} (h : execWriteOffset v s = .next t) : PlacesNoWait s t :=
  execBusWrite_placesNoWait h

theorem startRamp_placesNoWait {points : List Byte} (h : startRamp points s = .next t) : PlacesNoWait s t := by
  cases points with
  | nil => cases h; exact .of_seq rfl
  | cons b points =>
    have hbody : ∀ m ∈ rampBody s.cfg.addrPa s.rampDelay points, writesTxWaiting m = false := fun m hm => by
      obtain ⟨b, -, hm⟩ := List.mem_flatMap.1 hm
      simp only [List.mem_cons, List.not_mem_nil, or_false] at hm
      obtain rfl | rfl := hm <;> rfl
    exact .of_before (List.forall_mem_cons.2 ⟨rfl, hbody⟩) (execBusWrite_placesNoWait h)

theorem execDelay_placesNoWait {d : DelayId} (h : execDelay d s = .next t) : PlacesNoWait s t := by
  unfold execDelay at h
  split at h <;> cases h <;> exact .of_seq rfl

theorem execComputeFreqReg_placesNoWait {f : BitVec 32} (h : execComputeFreqReg f s = .next t) : PlacesNoWait s t := by
  simp only [execComputeFreqReg] at h
  split at h <;> cases h
  · exact .of_seq rfl
  · exact ⟨[.recordFault .freqRange], rfl, by simp [writesTxWaiting]⟩

theorem execModulate_placesNoWait (h : execModulate s = .next t) : PlacesNoWait s t := by
  have hrest : ∀ m ∈ s.modulateRest, writesTxWaiting m = false := by simp [State.modulateRest, writesTxWaiting]
  cases hradio : s.radioState with
  | tx => rw [execModulate_tx hradio] at h; exact .of_before hrest (startRamp_placesNoWait h)
  | rx =>
    cases (execModulate_rx hradio).symm.trans h
    exact ⟨.op .rampDown :: s.modulateRest, rfl, List.forall_mem_cons.2 ⟨rfl, hrest⟩⟩

theorem execCarrierUp_placesNoWait (h : execCarrierUp s = .next t) : PlacesNoWait s t := by
  unfold execCarrierUp at h
  split at h
  · exact .of_before (by simp [writesTxWaiting]) (busIssue_placesNoWait h)
  · exact startRamp_placesNoWait h

theorem execCarrierDown_placesNoWait (h : execCarrierDown s = .next t) : PlacesNoWait s t := by
  refine .of_before (pre := s.carrierDownRest) ?_ (startRamp_placesNoWait h)
  unfold State.carrierDownRest
  split <;> simp [writesTxWaiting]

theorem exec_placesNoWait {i : Instr} (hb : s.busy = true) (h : exec i s = .next t) : PlacesNoWait s t := by
  cases i with
  | initChip | closeChip | setFreq | send | startCarrier | stopCarrier =>
    cases (present_busy hb).symm.trans h
    exact .of_seq rfl
  | busStrobe => exact busIssue_placesNoWait h
  | busWrite => exact execBusWrite_placesNoWait h
  | writeOffset => exact execWriteOffset_placesNoWait h
  | delay => exact execDelay_placesNoWait h
  | rampUp | rampDown => exact startRamp_placesNoWait h
  | computeFreqReg => exact execComputeFreqReg_placesNoWait h
  | programFrequency f =>
    exact .of_before (pre := programFrequencyRest f) (by simp [programFrequencyRest, writesTxWaiting])
      (execWriteOffset_placesNoWait h)
  | modulate => exact execModulate_placesNoWait h
  | carrierUp => exact execCarrierUp_placesNoWait h
  | carrierDown => exact execCarrierDown_placesNoWait h
  | timerStart | timerStop => cases h; exact ⟨_, rfl, by simp [writesTxWaiting]⟩
  | tick => exact .of_seq (congrArg State.seq (execTick_effect h).frame :)

/-! ## SEQ -/

/-- A statement of SEQ that may write TxWaiting is followed by DISPATCH. -/
def WaitsAtDispatch : List Micro → Prop
  | [] => True
  | m :: rest => (writesTxWaiting m = true → ∃ after, rest = .dispatch :: after) ∧ WaitsAtDispatch rest

theorem WaitsAtDispatch.append (hpre : ∀ m ∈ pre, writesTxWaiting m = false) (h : WaitsAtDispatch rest) :
    WaitsAtDispatch (pre ++ rest) := by
  induction pre with
  | nil => exact h
  | cons m pre ih =>
    obtain ⟨hm, hpre⟩ := List.forall_mem_cons.1 hpre
    exact ⟨by simp [hm], ih hpre⟩

theorem PlacesNoWait.waitsAtDispatch (h : PlacesNoWait s t) (hs : WaitsAtDispatch s.seq) : WaitsAtDispatch t.seq := by
  obtain ⟨pre, hseq, hpre⟩ := h
  rw [hseq]
  exact hs.append hpre

/-- The end of TXSTART_BODY and TXPROC_BODY keeps to the rule, whatever follows it. -/
theorem waitsAtDispatch_leave (hpre : ∀ m ∈ pre, writesTxWaiting m = false)
    (h : WaitsAtDispatch rest) : WaitsAtDispatch (pre ++ m :: .dispatch :: rest) :=
  .append hpre ⟨fun _ => ⟨rest, rfl⟩, by simp [writesTxWaiting], h⟩

theorem waitsAtDispatch_body {body : List Micro} (hbody : body ∈ [txStartBody, [.dispatch], txProcBody, txEndBody])
    (h : WaitsAtDispatch rest) : WaitsAtDispatch (body ++ rest) := by
  simp only [List.mem_cons, List.not_mem_nil, or_false] at hbody
  obtain rfl | rfl | rfl | rfl := hbody
  · exact waitsAtDispatch_leave (m := .leaveTxStart) (pre := [.clearBitIndex, .setBitTotal, .op .carrierUp,
      .op .timerStart]) (by decide) h
  all_goals exact .append (by decide) h

theorem waitsAtDispatch_afterBit (h : WaitsAtDispatch rest) : WaitsAtDispatch (afterBit ++ rest) :=
  waitsAtDispatch_leave (m := .leaveTxProcessing) (pre := [.incBitIndex]) (by decide) h

theorem microStep_waitsAtDispatch (hb : s.busy = true) (hs : WaitsAtDispatch s.seq) (h : microStep m s = .next t) :
    WaitsAtDispatch t.seq := by
  cases m with
  | op => exact (exec_placesNoWait hb h).waitsAtDispatch hs
  | freqByte k =>
    exact (execBusWrite_placesNoWait (a := freqAddr s.cfg k) (bs := [freqByteOf s.freqQ k]) h).waitsAtDispatch hs
  | dispatch =>
    obtain ⟨body, hbody, rfl⟩ := dispatchStep_cases h
    exact waitsAtDispatch_body hbody hs
  | processBit =>
    obtain ⟨-, rfl⟩ | ⟨-, ⟨b, rfl⟩ | hmod | rfl⟩ := processBitStep_cases h
    · exact .append (by decide) hs
    · cases b with
      | true => exact waitsAtDispatch_afterBit hs
      | false => exact ⟨nofun, waitsAtDispatch_afterBit hs⟩
    · exact (execModulate_placesNoWait hmod).waitsAtDispatch (waitsAtDispatch_afterBit hs)
    · exact (waitsAtDispatch_afterBit hs).2
  | clearBusy => cases h; trivial
  | _ => cases h; exact hs

/-! ## The invariant -/

/-- In TxWaiting SEQ stands at DISPATCH, or SEND has still to make its first write and the timer is off; and the next
TxWaiting will come before DISPATCH too. -/
structure WaitInv (s : State) : Prop where
  waits : s.sysState = .txWaiting → s.bus = none ∧ ((∃ rest, s.seq = .dispatch :: rest) ∨
    (s.tmrArmed = false ∧ ∃ rest, s.seq = .setSysState .txStart :: rest))
  seq : WaitsAtDispatch s.seq

/-- Where a micro-step comes to TxWaiting, it is by a write of it. -/
theorem microStep_enters (hb : s.busy = true) (h : microStep m s = .next t) (ht : t.sysState = .txWaiting)
    (hne : t.sysState ≠ s.sysState) : writesTxWaiting m = true ∧ t.bus = s.bus ∧ t.seq = s.seq := by
  obtain ⟨v, rfl⟩ | rfl | rfl | rfl := (microStep_effect hb h).writes.sysState hne
  · cases h
    obtain rfl : v = .txWaiting := ht
    exact ⟨rfl, rfl, rfl⟩
  · cases ht.symm.trans ((execTick_effect h).sysState hne)
  all_goals cases h; exact ⟨rfl, rfl, rfl⟩

theorem SeqEffect.waitInv (h : SeqEffect s t) (hs : WaitInv s) : WaitInv t := by
  cases h with
  | idle e => rwa [e]
  | runs m rest busy bus seq micro =>
    obtain ⟨hwaits, hseq⟩ := hs
    rw [seq] at hseq
    refine ⟨fun ht => ?_, microStep_waitsAtDispatch (s := { s with seq := rest }) busy hseq.2 micro⟩
    by_cases hne : t.sysState = s.sysState
    · obtain ⟨-, ⟨after, hafter⟩ | ⟨-, after, hafter⟩⟩ := hwaits (hne ▸ ht)
      · cases seq.symm.trans hafter
        cases (dispatchStep_txWaiting (s := { s with seq := rest }) (hne ▸ ht)).symm.trans micro
        exact ⟨bus, .inl ⟨rest, rfl⟩⟩
      · cases seq.symm.trans hafter
        cases micro
        cases ht
    · obtain ⟨hm, hbus, htseq⟩ := microStep_enters (s := { s with seq := rest }) busy micro ht hne
      exact ⟨hbus.trans bus, .inl (htseq ▸ hseq.1 hm)⟩

theorem EnvEffect.waitInv (h : EnvEffect s t) (hs : WaitInv s) : WaitInv t := by
  obtain ⟨hwaits, hseq⟩ := hs
  rw [← h.seq] at hseq
  refine ⟨fun ht => ?_, hseq⟩
  have hsame : t.sysState = s.sysState := by
    by_contra hne
    cases ht.symm.trans (h.sysState hne)
  obtain ⟨-, -, -, -, -, -, -, -, -, -, harmed, -⟩ := registers_eq_iff.1 h.registers
  obtain ⟨hbus, hat⟩ := hwaits (hsame ▸ ht)
  rw [h.seq, harmed]
  exact ⟨h.bus hbus, hat⟩

end Sys2Proof.Machine
end

section
/-! SUPPORT. A SEND is the same under every schedule (42_tx_state_machine.md R198 to R200): in each of its states one
move leads on, and every other micro-step, tick or completion leaves all but ERR.TICK_ABSORBED as it is. -/

namespace Sys2Proof.Machine

open Sys2Proof.Safety

variable {s t u v : State} {m : Move} {ms ms' : List Move}

/-! ## The move that leads on -/

/-- The completion of the transaction in flight, else the tick that SEND waits for, else a micro-step. -/
def State.leadMove (s : State) : Move :=
  if s.bus.isSome then .bus .ok else if s.sysState = .txWaiting ∧ s.tmrArmed = true then .tick else .seq

/-- `t` comes after `s` by the move that leads on. -/
def Leads (s t : State) : Prop := stepMove s.leadMove s = .next t

theorem leads_unique : Relator.RightUnique Leads := fun _ _ _ ht hu => by
  have h := ht.symm.trans hu
  injection h

theorem leadMove_inFlight (h : s.bus ≠ none) : s.leadMove = .bus .ok := if_pos (Option.isSome_iff_ne_none.2 h)

theorem leadMove_waiting (hbus : s.bus = none) (h : s.sysState = .txWaiting) (harmed : s.tmrArmed = true) :
    s.leadMove = .tick := by
  simp [State.leadMove, hbus, h, harmed]

theorem leadMove_seq (hbus : s.bus = none) (h : s.sysState = .txWaiting → s.tmrArmed = false) :
    s.leadMove = .seq := by
  simp only [State.leadMove, hbus, Option.isSome_none, Bool.false_eq_true, if_false, ite_eq_right_iff, and_imp]
  intro hw harmed
  cases (h hw).symm.trans harmed

theorem leadMove_plain (s : State) : plainMove s.leadMove = true := by
  unfold State.leadMove
  split
  · rfl
  · split <;> rfl

/-! ## The moves of a SEND -/

theorem tickMove_disarmed (h : s.tmrArmed = false) : tickMove s = .next s := by
  unfold tickMove
  split
  · exact if_neg (by simp [h])
  · rfl

/-- Under GATED a tick outside TxWaiting is absorbed (R176). -/
theorem execTick_absorbed (hg : s.cfg.tickGating = .gated) (h : s.sysState ≠ .txWaiting) :
    execTick s = .next (s.raise .tickAbsorbed) := by
  rw [execTick, noteTick_absorbed h, hg, tickTarget_gated h]
  rfl

theorem tickMove_absorbed (hg : s.cfg.tickGating = .gated) (h : s.sysState ≠ .txWaiting) (ht : tickMove s = .next t) :
    t = s ∨ t = s.raise .tickAbsorbed := by
  unfold tickMove at ht
  split at ht
  · split at ht
    · cases (execTick_absorbed hg h).symm.trans ht; exact .inr rfl
    · cases ht; exact .inl rfl
  · cases ht; exact .inl rfl

/-- A plain move is the sequencer's, the timer's or the bus responder's, or nothing, as while `rst` is asserted. -/
theorem stepMove_plain_cases (hm : plainMove m = true) (h : stepMove m s = .next t) :
    t = s ∨ (m = .seq ∧ seqMove s = .next t) ∨ (m = .tick ∧ tickMove s = .next t) ∨
      (m = .bus .ok ∧ busMove .ok s = .next t) := by
  have released {f : State → Result} (h : (if s.rst then .next s else f s) = .next t) : t = s ∨ f s = .next t := by
    split at h
    · cases h; exact .inl rfl
    · exact .inr h
  cases m with
  | seq => exact (released h).imp_right fun h => .inl ⟨rfl, h⟩
  | tick => exact (released h).imp_right fun h => .inr (.inl ⟨rfl, h⟩)
  | bus r =>
    cases r with
    | ok => exact (released h).imp_right fun h => .inr (.inr ⟨rfl, h⟩)
    | err => cases hm
  | _ => cases hm

/-- A plain move leads on, does nothing, or is a tick absorbed. -/
theorem stepMove_leads (hg : s.cfg.tickGating = .gated) (hs : WaitInv s) (hm : plainMove m = true)
    (h : stepMove m s = .next t) : Leads s t ∨ t = s ∨ t = s.raise .tickAbsorbed := by
  have lead (hlead : s.leadMove = m) : Leads s t := by rwa [Leads, hlead]
  obtain rfl | ⟨rfl, hseq⟩ | ⟨rfl, htick⟩ | ⟨rfl, hbus⟩ := stepMove_plain_cases hm h
  · exact .inr (.inl rfl)
  · by_cases hbus : s.bus = none
    · by_cases hat : s.sysState = .txWaiting ∧ s.tmrArmed = true
      · obtain ⟨-, ⟨rest, hrest⟩ | ⟨hoff, -⟩⟩ := hs.waits hat.1
        · cases (seqMove_txWaiting hrest hat.1).symm.trans hseq
          exact .inr (.inl rfl)
        · cases hoff.symm.trans hat.2
      · exact .inl (lead (leadMove_seq hbus fun hw => Bool.eq_false_iff.2 fun ha => hat ⟨hw, ha⟩))
    · cases (seqMove_waits hbus).symm.trans hseq
      exact .inr (.inl rfl)
  · by_cases hw : s.sysState = .txWaiting
    · cases harmed : s.tmrArmed with
      | true => exact .inl (lead (leadMove_waiting (hs.waits hw).1 hw harmed))
      | false => cases (tickMove_disarmed harmed).symm.trans htick; exact .inr (.inl rfl)
    · exact .inr (tickMove_absorbed hg hw htick)
  · by_cases hfree : s.bus = none
    · rw [busMove, hfree] at hbus
      cases hbus
      exact .inr (.inl rfl)
    · exact .inl (lead (leadMove_inFlight hfree))

/-! ## What a SEND keeps -/

/-- What holds of SEND's states, from acceptance on. -/
structure SendInv (s : State) : Prop where
  gated : s.cfg.tickGating = .gated
  seqInv : seqInv s
  wait : WaitInv s

theorem stepMove_plain_effect (hm : plainMove m = true) (h : stepMove m s = .next t) :
    SeqEffect s t ∨ EnvEffect s t := by
  obtain rfl | ⟨-, hseq⟩ | ⟨-, htick⟩ | ⟨-, hbus⟩ := stepMove_plain_cases hm h
  · exact .inr (.refl t)
  · exact .inl (seqMove_effect hseq)
  · obtain rfl | htick := tickMove_effect htick
    · exact .inr (.refl t)
    · exact .inr (.of_tick htick)
  · exact .inr (busMove_effect hbus).2

theorem SendInv.step (hs : SendInv s) (hm : plainMove m = true) (h : stepMove m s = .next t) : SendInv t := by
  obtain ⟨gated, seqInv, wait⟩ := hs
  rw [← stepMove_cfg h] at gated
  obtain hseq | henv := stepMove_plain_effect hm h
  · exact ⟨gated, hseq.seqInv seqInv, hseq.waitInv wait⟩
  · exact ⟨gated, henv.seqInv seqInv, henv.waitInv wait⟩

/-- Once BUSY = 0 nothing leads on. -/
theorem SendInv.rests (hs : SendInv s) (hb : s.busy = false) (h : Leads s t) : t = s := by
  obtain ⟨hseq, hbus⟩ := (seqInv_of_idle hb).1 hs.seqInv
  have hsys : s.sysState ≠ .txWaiting := fun hw => by
    obtain ⟨-, ⟨rest, hat⟩ | ⟨-, rest, hat⟩⟩ := hs.wait.waits hw <;> cases hseq.symm.trans hat
  have hfree : s.sequencerFree = false := by simp [State.sequencerFree, hb]
  rw [Leads, leadMove_seq hbus fun hw => absurd hw hsys, stepMove, seqMove_stutters hfree, ite_self] at h
  cases h
  rfl

theorem SendInv.leads (hs : SendInv s) (h : Relation.ReflTransGen Leads s t) : SendInv t ∧ Grows s t := by
  induction h with
  | refl => exact ⟨hs, .refl s⟩
  | tail _ hlead ih =>
    obtain ⟨hs, hgrows⟩ := ih
    refine ⟨hs.step (leadMove_plain _) hlead, hgrows.trans ?_⟩
    exact (stepMove_plain_effect (leadMove_plain _) hlead).elim SeqEffect.grows EnvEffect.grows

/-! ## Two schedules -/

/-- No flag, or E_TICK_ABSORBED: what absorbed ticks leave in ERR. -/
def AbsorbedFlags (e : Word) : Prop := e = 0#16 ∨ e = ErrFlag.tickAbsorbed.bit

theorem AbsorbedFlags.raise {e : Word} (he : AbsorbedFlags e) : AbsorbedFlags (ErrFlag.tickAbsorbed.bit ||| e) := by
  obtain rfl | rfl := he
  · exact .inr BitVec.or_zero
  · exact .inr BitVec.or_self

/-- Whatever the schedule, the run goes along the states that lead on one to the next, but for absorbed ticks. -/
theorem SendInv.follows {sc : List Move} {e : Word} (hs : SendInv s) (he : AbsorbedFlags e)
    (hms : ms.all plainMove = true) (h : runScript ms (s.veil sc e) = .next u) :
    ∃ w e', Relation.ReflTransGen Leads s w ∧ AbsorbedFlags e' ∧ u = w.veil [] e' := by
  induction ms generalizing s e with
  | nil => cases h; exact ⟨s, e, .refl, he, rfl⟩
  | cons m ms ih =>
    obtain ⟨hm, hms⟩ := Bool.and_eq_true_iff.1 hms
    rw [runScript_cons_plain hm, stepMove_blind hm] at h
    obtain ⟨_, hstep, hrun⟩ := andThen_next h
    obtain ⟨t, ht, hveil⟩ := andThen_next hstep
    cases hveil
    obtain hlead | rfl | rfl := stepMove_leads hs.gated hs.wait hm ht
    · obtain ⟨w, e', hw, he', hu⟩ := ih (hs.step hm ht) he hms hrun
      exact ⟨w, e', .head hlead hw, he', hu⟩
    · exact ih hs he hms hrun
    · exact ih hs he.raise hms (veil_veil s.script sc ErrFlag.tickAbsorbed.bit e s ▸ hrun)

/-- Two schedules that each end a SEND end it in one state, but for absorbed ticks. -/
theorem SendInv.agree (hs : SendInv s) (hms : ms.all plainMove = true) (hms' : ms'.all plainMove = true)
    (hu : runScript ms s = .next u) (hv : runScript ms' s = .next v) (hub : u.busy = false) (hvb : v.busy = false) :
    ∃ w e e', Grows s w ∧ AbsorbedFlags e ∧ AbsorbedFlags e' ∧ u = w.veil [] e ∧ v = w.veil [] e' := by
  have hself : s.veil s.script 0#16 = s := veil_zero s.script s
  rw [← hself] at hu hv
  obtain ⟨w, e, hw, he, rfl⟩ := hs.follows (.inl rfl) hms hu
  obtain ⟨w', e', hw', he', rfl⟩ := hs.follows (.inl rfl) hms' hv
  have rests {x y : State} (hx : Relation.ReflTransGen Leads s x) (hb : x.busy = false)
      (hxy : Relation.ReflTransGen Leads x y) : y = x := by
    induction hxy with
    | refl => rfl
    | tail _ hlead ih => subst ih; exact (hs.leads hx).1.rests hb hlead
  obtain rfl : w = w' := (Relation.ReflTransGen.total_of_right_unique leads_unique hw hw').elim
    (fun h => (rests hw hub h).symm) (rests hw' hvb)
  exact ⟨w, e, e', (hs.leads hw).2, he, he', rfl, rfl⟩

/-! ## SEND -/

/-- SEND at its acceptance, with the timer off. -/
theorem sendInv_accepted (hg : s.cfg.tickGating = .gated) (hb : s.busy = true) (hbus : s.bus = none)
    (harmed : s.tmrArmed = false) : SendInv { s with seq := sendProgram } where
  gated := hg
  seqInv := (seqInv_of_busy (by exact hb)).2 ⟨.dispatch, rfl, rfl⟩
  wait := ⟨fun _ => ⟨hbus, .inr ⟨harmed, _, rfl⟩⟩, nofun, nofun, trivial⟩

/-- Absorbed ticks add E_TICK_ABSORBED at most to what the other moves leave of ERR. -/
theorem Grows.err_of_veil {w : State} {e e' : Word} (h : Grows s w) (he : AbsorbedFlags e) (hv : w.err ||| e' = s.err) :
    w.err ||| e = s.err ∨ w.err ||| e = s.err ||| 0x0010#16 := by
  obtain ⟨-, -, x, -, hx⟩ := h
  have hw : w.err = s.err := by
    rw [hx] at hv ⊢
    ext i hi
    have hbit := congrArg (·[i]) hv
    simp only [BitVec.getElem_or] at hbit ⊢
    cases hs : s.err[i] <;> simp_all
  rw [hw]
  obtain rfl | rfl := he
  · exact .inl BitVec.or_zero
  · exact .inr rfl

/-- Settles O35: the schedule of O34 ends SEND as R198 says, and any other agrees with it. -/
theorem sendIsTheSameUnderEverySchedule : Obligations.SendIsTheSameUnderEverySchedule := by
  intro s t u len B sel0 ms hcalm hlaunch hg a htable hexec hms hrun hub
  obtain ⟨-, hb, hbus, hchip, hradio, harmed, hlen, hbuf, rfl⟩ := hlaunch
  cases (exec_send_accepted len hb hchip).symm.trans hexec
  have hinv : SendInv { a with seq := sendProgram } := sendInv_accepted hg rfl hbus harmed
  obtain ⟨ms', hms', hrun'⟩ := sends_sent (s := a) ⟨hcalm, rfl⟩ htable hradio (latch_send_curLen len) hlen hbuf
  obtain ⟨w, e, e', hgrows, he, he', rfl, hsent⟩ := hinv.agree hms hms' hrun hrun' hub rfl
  refine ⟨?_, hgrows.err_of_veil he (congrArg State.err hsent).symm⟩
  have hrest : w.veil [] e = { w.veil [] e' with err := (w.veil [] e).err } := rfl
  rw [← hsent] at hrest
  exact hrest

end Sys2Proof.Machine
end

section
/-! SUPPORT. The window at the platform's base address (60_exceptions.md R235, 92_eei_decisions.md D50). -/

namespace Sys2Proof.Machine

open Sys2Proof.Safety

theorem windowOffset_add (p : Params) (off : Offset) : windowOffset p (p.dmcsBase + off.toNat) = some off := by
  have hlt : p.dmcsBase + off.toNat < p.dmcsBase + 512 := Nat.add_lt_add_left off.isLt _
  rw [windowOffset, if_pos ⟨Nat.le_add_right _ _, hlt⟩, Nat.add_sub_cancel_left, BitVec.ofNat_toNat, BitVec.setWidth_eq]

theorem windowOffset_eq_none {p : Params} {a : Nat} (h : a < p.dmcsBase ∨ p.dmcsBase + 512 ≤ a) :
    windowOffset p a = none := if_neg (by omega)

/-- Settles O47: the offset of `DMCS_BASE + off` is `off`, and an address outside the window has none. -/
theorem hostAddressesAreRelativeToTheBase : Obligations.HostAddressesAreRelativeToTheBase := by
  intro s w v
  refine ⟨fun off => ?_, fun a ha => ?_⟩
  · simp only [addressWrite, addressRead, windowOffset_add, and_self]
  · simp only [addressWrite, addressRead, windowOffset_eq_none ha, and_self]

end Sys2Proof.Machine
end

section
/-! SUPPORT. One clock cycle: the host access, then the micro-step, then the edge (60_exceptions.md R227). -/

namespace Sys2Proof.Machine

open Sys2Proof.Safety

variable {s t u v : State} {ms : List Move} {host seq : Bool}

/-! ## A flag raised in ERR stays -/

theorem ErrFlag.getLsbD_or_bit (x : Word) (e : ErrFlag) : (x ||| e.bit).getLsbD e.code = true := by
  have hbit : e.bit.getLsbD e.code = true := by cases e <;> rfl
  rw [BitVec.getLsbD_or, hbit, Bool.or_true]

theorem Grows.getLsbD_err {i : Nat} (h : Grows s t) (hs : s.err.getLsbD i = true) : t.err.getLsbD i = true := by
  obtain ⟨-, -, e, -, herr⟩ := h
  rw [herr, BitVec.getLsbD_or, hs, Bool.true_or]

/-! ## The host access -/

/-- What the host's write of ERR leaves (R30), the moves `ms` and the statements `prog` still to come. -/
def State.errWritten (s : State) (ms : List Move) (prog : List HostStmt) (x : Word) : State :=
  { s with script := ms, hostProg := prog, err := clearErrBits s.err x }

/-- What the host's write of CMD leaves at BUSY = 1 (R65). -/
def State.cmdDropped (s : State) (ms : List Move) (prog : List HostStmt) : State :=
  { s with script := ms, hostProg := prog }.raise .busyWrite

variable {prog : List HostStmt}

theorem hostMove_stmt {st : HostStmt} (hp : s.hostProg = st :: prog) :
    hostMove s = hostStmt st { s with hostProg := prog } := by
  simp only [hostMove, State.nextStmt, hp]

theorem hostMove_err {x : Word} (hp : s.hostProg = .w16 0x004#9 x :: prog) :
    hostMove { s with script := ms } = .next (s.errWritten ms prog x) :=
  (hostMove_stmt (s := { s with script := ms }) hp).trans (memWrite_err x _)

theorem hostMove_cmd_busy {w : Word} (hp : s.hostProg = .w16 0x000#9 w :: prog) (hb : s.busy = true) :
    hostMove { s with script := ms } = .next (s.cmdDropped ms prog) :=
  (hostMove_stmt (s := { s with script := ms }) hp).trans (memWrite_busy rfl hb (by decide))

/-! ## The edge that ends the cycle -/

theorem cycleEdge_next (armed : Bool) (s : State) : ∃ t, cycleEdge armed s = .next t := by
  simp only [cycleEdge, clockEdge]
  split
  · exact ⟨_, rfl⟩
  split
  · split
    · exact ⟨_, rfl⟩
    · exact ⟨_, rfl⟩
  · exact ⟨_, rfl⟩

/-- With the timer armed since the start of the cycle, its edge is one as any other. -/
theorem cycleEdge_armed {armed : Bool} (h : armed = true) (s : State) : cycleEdge armed s = clockEdge s :=
  if_neg (by simp [h])

/-- The edge of the cycle that arms the timer does not count (R174, log 24). -/
theorem cycleEdge_arming {armed : Bool} (h : armed = false) (hs : s.tmrArmed = true) :
    cycleEdge armed s = .next s.countWaits := if_pos (by simp [h, hs])

/-- An edge at TMR_COUNT = 0 outside TxWaiting raises E_TICK_ABSORBED (R174, R176). -/
theorem clockEdge_absorbed (harmed : s.tmrArmed = true) (hcount : s.tmrCount = 0#16) (hsys : s.sysState ≠ .txWaiting) :
    ∃ t, clockEdge s = .next t ∧ t.err = s.err ||| ErrFlag.tickAbsorbed.bit := by
  rw [clockEdge_reloads harmed hcount, exec, execTick, noteTick_absorbed (by exact hsys)]
  exact ⟨_, rfl, rfl⟩

/-- An edge at TMR_COUNT = 0 in TxWaiting is a tick consumed (R174, R176). -/
theorem clockEdge_consumed (harmed : s.tmrArmed = true) (hcount : s.tmrCount = 0#16) (hsys : s.sysState = .txWaiting) :
    ∃ t, clockEdge s = .next t ∧ t.sysState = .txProcessing ∧ t.hist = s.hist ++ [.tick] ∧ t.err = s.err := by
  rw [clockEdge_reloads harmed hcount, exec, execTick, noteTick_consumed (by exact hsys)]
  refine ⟨_, rfl, ?_, rfl, rfl⟩
  simp only [State.countWaits_sysState, hsys, tickTarget_txWaiting]

/-! ## The cycle -/

/-- A scheduled cycle, its host access and its micro-step done, is its edge. -/
theorem step_cycle (hr : s.rst = false) (ht : s.cfg.reading = .timed) (hs : s.script = .cycle host seq :: ms)
    (hu : (if host then hostMove { s with script := ms } else .next { s with script := ms }) = .next u)
    (hv : (if seq then seqMove u else .next u) = .next v) : step s = cycleEdge s.tmrArmed v := by
  rw [step_scheduled hs, stepMove, if_neg (by simp [hr]), cycleMove, ht]
  simp only [hu, andThen, hv]

/-- A cycle with all three: the edge only adds to what the host access and the micro-step leave. -/
theorem step_cycle_host_seq {m : Micro} {rest : List Micro} (hr : s.rst = false) (ht : s.cfg.reading = .timed)
    (hs : s.script = .cycle true true :: ms) (hu : hostMove { s with script := ms } = .next u)
    (hf : u.sequencerFree = true) (hq : u.seq = m :: rest) (hv : microStep m { u with seq := rest } = .next v) :
    ∃ t, step s = .next t ∧ EnvEffect v t := by
  obtain ⟨t, hedge⟩ := cycleEdge_next s.tmrArmed v
  exact ⟨t, (step_cycle hr ht hs hu ((seqMove_next hf hq).trans hv)).trans hedge, cycleEdge_effect hedge⟩

/-- A cycle without a host access: the micro-step, then the edge. -/
theorem step_cycle_seq {m : Micro} {rest : List Micro} (hr : s.rst = false) (ht : s.cfg.reading = .timed)
    (hs : s.script = .cycle false true :: ms) (hf : s.sequencerFree = true) (hq : s.seq = m :: rest)
    (hv : microStep m { s with script := ms, seq := rest } = .next v) : step s = cycleEdge s.tmrArmed v :=
  step_cycle hr ht hs rfl ((seqMove_next (s := { s with script := ms }) hf hq).trans hv)

/-- The last statement of TXPROC_BODY, with bits left to send (R194). -/
theorem microStep_leaveTxProcessing (h : s.bitIndex ≠ s.bitTotal) :
    microStep .leaveTxProcessing s = .next { s with sysState := .txWaiting } := by
  rw [microStep, if_neg h]

/-- Settles O26: what the host's write clears or loses to the micro-step or the tick after it, and what the micro-step
takes from or leaves to the tick. -/
theorem sameCycleEventsAreOrdered : Obligations.SameCycleEventsAreOrdered := by
  intro s ms rest prog hr ht hf
  refine ⟨fun f x hs hp hq hrange => ?freqRange, fun x hs hp hq hle => ?cursorOverrun,
    fun x hs hp harmed hcount hsys => ?tickAbsorbed, fun w hs hp hq => ?busyWrite,
    fun hs hq harmed hcount => ?timerStop, fun hs hq hne harmed hcount => ?txWaiting,
    fun hs hq harmed => ?arming⟩
  case freqRange =>
    obtain ⟨t, hstep, hedge⟩ := step_cycle_host_seq hr ht hs (hostMove_err hp) hf hq
      (execComputeFreqReg_outOfRange (s := { s.errWritten ms prog x with seq := rest }) hrange)
    exact ⟨t, hstep, hedge.grows.getLsbD_err (ErrFlag.getLsbD_or_bit _ .freqRange)⟩
  case cursorOverrun =>
    obtain ⟨t, hstep, hedge⟩ := step_cycle_host_seq hr ht hs (hostMove_err hp) hf hq
      (microStep_processBit_overrun (s := { s.errWritten ms prog x with seq := rest }) hle)
    exact ⟨t, hstep, hedge.grows.getLsbD_err (ErrFlag.getLsbD_or_bit _ .cursorOverrun)⟩
  case tickAbsorbed =>
    have hstep := (step_cycle hr ht hs (hostMove_err hp) rfl).trans (cycleEdge_armed harmed _)
    obtain ⟨t, htick, herr⟩ := clockEdge_absorbed (s := s.errWritten ms prog x) harmed hcount hsys
    exact ⟨t, hstep.trans htick, herr ▸ ErrFlag.getLsbD_or_bit _ .tickAbsorbed⟩
  case busyWrite =>
    obtain ⟨hb, -⟩ := sequencerFree_iff.1 hf
    obtain ⟨t, hstep, hedge⟩ := step_cycle_host_seq hr ht hs (hostMove_cmd_busy hp hb) hf hq rfl
    obtain ⟨hcmd, -⟩ := operands_eq_iff.1 hedge.operands
    exact ⟨t, hstep, hedge.busy, hcmd, hedge.seq, hedge.grows.getLsbD_err (ErrFlag.getLsbD_or_bit _ .busyWrite)⟩
  case timerStop =>
    have hstep := (step_cycle_seq hr ht hs hf hq rfl).trans (cycleEdge_armed harmed _)
    exact ⟨_, hstep.trans (clockEdge_disarmed rfl), rfl, rfl, rfl, rfl⟩
  case txWaiting =>
    have hstep := (step_cycle_seq hr ht hs hf hq
      (microStep_leaveTxProcessing (s := { s with script := ms, seq := rest }) hne)).trans (cycleEdge_armed harmed _)
    obtain ⟨t, htick, heffect⟩ := clockEdge_consumed
      (s := { s with script := ms, seq := rest, sysState := .txWaiting }) harmed hcount rfl
    exact ⟨t, hstep.trans htick, heffect⟩
  case arming =>
    have hstep := (step_cycle_seq hr ht hs hf hq rfl).trans (cycleEdge_arming harmed rfl)
    exact ⟨_, hstep, rfl, rfl, rfl⟩

end Sys2Proof.Machine
end

section
/-! SUPPORT. Block reset (70_reset_and_hazards.md R260, R262). -/

namespace Sys2Proof.Machine

open Sys2Proof.Safety

/-- While `rst` is asserted only the pin itself moves (R260). -/
theorem stepMove_asserted {s : State} {m : Move} (hr : s.rst = true) (hm : ∀ b, m ≠ .rst b) :
    stepMove m s = .next s := by
  cases m with
  | rst b => exact absurd rfl (hm b)
  | _ => exact if_pos hr

/-- The release gives the reset values again. -/
theorem stepMove_release {s : State} (hr : s.rst = true) : stepMove (.rst false) s = .next s.blockReset :=
  if_pos hr

/-- Settles O51: asserting `rst` and releasing it both give the reset values, and between the two nothing moves. -/
theorem blockResetAbandonsEverything : Obligations.BlockResetAbandonsEverything := by
  intro s m ms hs z
  have hstep := step_scheduled hs
  refine ⟨fun hm => ⟨?asserted, ?ends⟩, fun hr hm => ⟨?released, startsRun_blockReset { s with script := ms }⟩,
    fun hr hm => ?held⟩
  case asserted => subst hm; exact hstep
  case ends => exact not_runStep (.inr ((nextMove_scheduled hs).trans hm))
  case released => subst hm; exact hstep.trans (stepMove_release hr)
  case held => exact hstep.trans (stepMove_asserted hr hm)

end Sys2Proof.Machine
end

section
/-! SUPPORT. The two readings of time (70_reset_and_hazards.md R275): the operations that answer the same in both, from
the shared ones up to the moves. -/

namespace Sys2Proof.Machine

open Sys2Proof.Safety

variable {s t : State} {f g : State → Result}

/-- The state as the untimed reading sees it, with TMR_COUNT at `c`. -/
def State.untimedAt (c : BitVec 16) (s : State) : State := { untime s with tmrCount := c }

/-- `f` answers the same in both readings, and lets TMR_COUNT be. -/
def Timeless (f : State → Result) : Prop :=
  ∀ (s : State) (c : BitVec 16), f (s.untimedAt c) = andThen (f s) fun t => .next (t.untimedAt c)

theorem untime_eq_untimedAt (s : State) : untime s = s.untimedAt 0#16 := rfl

theorem untime_untimedAt (c : BitVec 16) (s : State) : untime (s.untimedAt c) = untime s := rfl

theorem untimedAt_congr (h : untime t = untime s) (c : BitVec 16) : t.untimedAt c = s.untimedAt c :=
  congrArg (fun u : State => { u with tmrCount := c }) h

/-! ## Rules -/

theorem Timeless.next {h : State → State} (hh : ∀ s c, h (s.untimedAt c) = (h s).untimedAt c) :
    Timeless fun s => .next (h s) := fun s c => congrArg _ (hh s c)

theorem Timeless.idle : Timeless .next := fun _ _ => rfl

theorem Timeless.ite {p : State → Bool} (hp : ∀ s c, p (s.untimedAt c) = p s) (hf : Timeless f) (hg : Timeless g) :
    Timeless fun s => if p s then f s else g s := fun s c => by
  simp only [hp]
  split
  · exact hf s c
  · exact hg s c

theorem Timeless.answer (hf : Timeless f) (h : f s = .next t) (c : BitVec 16) :
    f (s.untimedAt c) = .next (t.untimedAt c) := by
  rw [hf, h, andThen]

/-! ## The micro-operations -/

/-- The port's time is out of the untimed reading's sight. -/
theorem busIssue_timeless (x : BusTxn) : Timeless (busIssue x) :=
  .ite (p := fun s => s.bus.isSome) (fun _ _ => rfl) (.next fun _ _ => rfl) (.next fun _ _ => rfl)

theorem execBusWrite_timeless (a : RadioAddr) (bs : List Byte) : Timeless (execBusWrite a bs) :=
  .ite (p := fun _ => bs.isEmpty) (fun _ _ => rfl) (fun _ _ => rfl) (busIssue_timeless (.write a bs))

/-- The running delay is out of the untimed reading's sight. -/
theorem execDelay_timeless (d : DelayId) : Timeless (execDelay d) := fun s c => by
  rw [execDelay_untimed (s := s.untimedAt c) d rfl]
  cases h : s.cfg.reading with
  | untimed => rw [execDelay_untimed d h]; rfl
  | timed => rw [execDelay_timed d h]; rfl

theorem startRamp_timeless (points : List Byte) : Timeless (startRamp points) := by
  cases points with
  | nil => exact .idle
  | cons b rest =>
    exact fun s => execBusWrite_timeless s.cfg.addrPa [b]
      (s.before (.op (.delay s.rampDelay) :: rampBody s.cfg.addrPa s.rampDelay rest))

theorem execComputeFreqReg_timeless (q : BitVec 32) : Timeless (execComputeFreqReg q) :=
  .ite (p := fun s => freqInRange (s.freqInt q)) (fun _ _ => rfl) (.next fun _ _ => rfl) (.next fun _ _ => rfl)

theorem execModulate_timeless : Timeless execModulate := fun s c => by
  cases h : s.radioState with
  | tx =>
    rw [execModulate_tx h, execModulate_tx (s := s.untimedAt c) h]
    exact startRamp_timeless s.rampTable.reverse (s.before s.modulateRest) c
  | rx => rw [execModulate_rx h, execModulate_rx (s := s.untimedAt c) h]; rfl

theorem execCarrierUp_timeless : Timeless execCarrierUp :=
  .ite (p := fun s => s.cfg.carrierStrobes) (fun _ _ => rfl)
    (fun s => busIssue_timeless (.strobe s.cfg.strobeStx) (s.before [.op .rampUp]))
    (fun s => startRamp_timeless s.rampTable s)

theorem noteTick_untimedAt (s : State) (c : BitVec 16) : (s.untimedAt c).noteTick = s.noteTick.untimedAt c := by
  by_cases h : s.sysState = .txWaiting
  · rw [noteTick_consumed h, noteTick_consumed (s := s.untimedAt c) h]; rfl
  · rw [noteTick_absorbed h, noteTick_absorbed (s := s.untimedAt c) h]; rfl

theorem execTick_timeless : Timeless execTick := .next fun s c => by rw [noteTick_untimedAt]; rfl

theorem present_timeless (i : Instr) (w : Word) {p : State → List Micro} (hp : ∀ s c, p (s.untimedAt c) = p s) :
    Timeless (present i w p) :=
  .ite (p := State.busy) (fun _ _ => rfl) (.next fun _ _ => rfl)
    (.ite (p := fun s => !admitted s.chipMode i) (fun _ _ => rfl) (.next fun _ _ => rfl)
      (.next fun s c => congrArg (fun ms => { (s.untimedAt c).latch w with seq := ms }) (hp (s.latch w) c)))

theorem exec_timeless (i : Instr) : Timeless (exec i) := by
  cases i with
  | initChip | closeChip | setFreq | send | startCarrier | stopCarrier => exact present_timeless _ _ fun _ _ => rfl
  | busStrobe x => exact busIssue_timeless (.strobe x)
  | busWrite a bs => exact execBusWrite_timeless a bs
  | delay d => exact execDelay_timeless d
  | rampUp => exact fun s => startRamp_timeless s.rampTable s
  | rampDown => exact fun s => startRamp_timeless s.rampTable.reverse s
  | writeOffset v => exact fun s => execBusWrite_timeless s.cfg.addrFreqOff1 (offsetBytes v) s
  | computeFreqReg q => exact execComputeFreqReg_timeless q
  | programFrequency q =>
    exact fun s => execBusWrite_timeless s.cfg.addrFreqOff1 (offsetBytes s.offsetNeutral)
      (s.before (programFrequencyRest q))
  | modulate => exact execModulate_timeless
  | carrierUp => exact execCarrierUp_timeless
  | carrierDown => exact fun s => startRamp_timeless s.rampTable.reverse (s.before s.carrierDownRest)
  | timerStart | timerStop => exact .next fun _ _ => rfl
  | tick => exact execTick_timeless

/-! ## The statements of SEQ -/

theorem dispatchStep_timeless : Timeless dispatchStep := fun s c => by
  have hsys : (s.untimedAt c).sysState = s.sysState := rfl
  simp only [dispatchStep, hsys]
  cases s.sysState <;> rfl

theorem processBitStep_timeless : Timeless processBitStep := fun s c => by
  by_cases hlt : s.bitIndex < s.bitTotal
  case neg =>
    rw [BitVec.not_lt] at hlt
    rw [processBitStep_overrun hlt, processBitStep_overrun (s := s.untimedAt c) hlt]
    rfl
  cases hread : s.txbuf.read (bitByteIndex s.bitIndex) with
  | none =>
    rw [processBitStep_unwritten hlt hread, processBitStep_unwritten (s := s.untimedAt c) hlt hread]
    rfl
  | some b =>
    rw [bitByteIndex_eq_div] at hread
    cases hbit : b.getLsbD (7 - s.bitIndex.toNat % 8) with
    | true =>
      rw [processBitStep_one hlt hread hbit, processBitStep_one (s := s.untimedAt c) hlt hread hbit]
      rfl
    | false =>
      rw [processBitStep_zero hlt hread hbit, processBitStep_zero (s := s.untimedAt c) hlt hread hbit]
      exact exec_timeless .modulate (s.before afterBit) c

/-- A statement of SEQ answers the same in both readings; only the timer's two write TMR_COUNT. -/
theorem microStep_untimedAt {m : Micro} (h : microStep m s = .next t) (c : BitVec 16) :
    ∃ c', microStep m (s.untimedAt c) = .next (t.untimedAt c') := by
  cases m with
  | op i => exact ⟨c, (exec_timeless i).answer h c⟩
  | freqByte k => exact ⟨c, (exec_timeless (.busWrite (freqAddr s.cfg k) [freqByteOf s.freqQ k])).answer h c⟩
  | dispatch => exact ⟨c, dispatchStep_timeless.answer h c⟩
  | processBit => exact ⟨c, processBitStep_timeless.answer h c⟩
  | setTmrCount v => cases h; exact ⟨v, rfl⟩
  | _ => cases h; exact ⟨c, rfl⟩

/-! ## The host port -/

theorem readTx_untimedAt (k : Nat) (s : State) (c : BitVec 16) :
    readTx k (s.untimedAt c) = ((readTx k s).1, (readTx k s).2.untimedAt c) := by
  cases h : s.txbuf.read k with
  | none => rw [readTx_of_none h, readTx_of_none (s := s.untimedAt c) h]; rfl
  | some b => rw [readTx_of_some h, readTx_of_some (s := s.untimedAt c) h]

theorem readTxByteAt_untimedAt (off : Offset) (s : State) (c : BitVec 16) :
    readTxByteAt off (s.untimedAt c) = ((readTxByteAt off s).1, (readTxByteAt off s).2.untimedAt c) := by
  unfold readTxByteAt
  split
  · exact readTx_untimedAt _ s c
  · rfl
  · rfl

/-- Every register but TMR_COUNT reads the same in both readings (R276). -/
theorem readReg_untimedAt {r : HostReg} (h : r ≠ .tmrCount) (s : State) (c : BitVec 16) :
    readReg (s.untimedAt c) r = readReg s r := by
  cases r with
  | tmrCount => exact absurd rfl h
  | _ => rfl

/-- The register map has a register at its own offset only (R62). -/
theorem eq_offset_of_locate {off : Offset} {r : HostReg} (h : locate off = .reg r) : off = r.offset := by
  unfold locate at h
  split at h
  case h_14 => split at h <;> cases h
  all_goals cases h; exact BitVec.eq_of_toNat_eq ‹_›

/-- A read of anything but TMR_COUNT, which no 8-bit access reaches (R64). -/
theorem memRead_untimedAt {off : Offset} {w : Width} (hoff : w = .w16 → off ≠ 0x018#9) (s : State) (c : BitVec 16) :
    memRead off w (s.untimedAt c) = (memRead off w s).untimedAt c := by
  cases hleg : legalAccess off w with
  | false => rw [memRead_illegal hleg, memRead_illegal hleg]; rfl
  | true =>
    cases hl : locate off with
    | reg r =>
      have hr : r ≠ .tmrCount := by
        rintro rfl
        obtain rfl := eq_offset_of_locate hl
        cases w with
        | w8 => cases hleg
        | w16 => exact hoff rfl rfl
      rw [memRead_reg hleg hl, memRead_reg hleg hl, readReg_untimedAt hr]
      rfl
    | reserved => rw [memRead_reserved hleg hl, memRead_reserved hleg hl]; rfl
    | txbuf k =>
      cases w with
      | w8 => rw [memRead_txbuf_byte hleg hl, memRead_txbuf_byte hleg hl, readTx_untimedAt]; rfl
      | w16 =>
        rw [memRead_txbuf_word hleg hl, memRead_txbuf_word hleg hl, readTx_untimedAt, readTxByteAt_untimedAt]
        rfl

theorem presentCommand_timeless (w : Word) : Timeless (presentCommand w) := fun s c => by
  unfold presentCommand
  split
  · rfl
  · exact exec_timeless _ s c

theorem writeReg_timeless (r : HostReg) (v : Word) : Timeless (writeReg r v) := by
  cases r with
  | cmd => exact presentCommand_timeless v
  | _ => exact .next fun _ _ => rfl

theorem writeTxByteAt_untimedAt (off : Offset) (b : Byte) (s : State) (c : BitVec 16) :
    writeTxByteAt off b (s.untimedAt c) = (writeTxByteAt off b s).untimedAt c := by
  unfold writeTxByteAt
  split <;> rfl

theorem memWrite_timeless (off : Offset) (w : Width) (v : Word) : Timeless (memWrite off w v) := by
  refine .ite (p := fun _ => !legalAccess off w) (fun _ _ => rfl) (.next fun _ _ => rfl)
    (.ite (p := fun s => s.busy && off ≠ 0x004#9) (fun _ _ => rfl) (.next fun _ _ => rfl) fun s c => ?_)
  split
  · exact writeReg_timeless _ v s c
  · rfl
  · rfl
  next k _ => exact congrArg _ (writeTxByteAt_untimedAt (off + 1) _ (writeTx k _ s) c)

theorem hostStmt_timeless {st : HostStmt} (h : readsTmrCount st = false) : Timeless (hostStmt st) := by
  cases st with
  | w16 off v => exact memWrite_timeless off .w16 v
  | w8 off v => exact memWrite_timeless off .w8 (v.setWidth 16)
  | r16 off => exact .next (memRead_untimedAt fun _ => by simpa [readsTmrCount] using h)
  | r8 off => exact .next (memRead_untimedAt nofun)
  | poll off mask want =>
    intro s c
    have hread := memRead_untimedAt (w := .w16) (fun _ => by simpa [readsTmrCount] using h) s c
    have hdata : ((memRead off .w16 s).untimedAt c).rdata = (memRead off .w16 s).rdata := rfl
    simp only [hostStmt, hread, hdata]
    split <;> rfl

theorem hostMove_free (hp : s.hostProg = []) :
    hostMove s = hostStmt (Config.freeHost s.draws) { s with draws := s.draws + 1 } := by
  simp only [hostMove, State.nextStmt, hp]

theorem hostMove_untimedAt (h : readsTmrCount s.nextStmt = false) (c : BitVec 16) :
    hostMove (s.untimedAt c) = andThen (hostMove s) fun t => .next (t.untimedAt c) := by
  cases hp : s.hostProg with
  | nil =>
    rw [State.nextStmt, hp] at h
    rw [hostMove_free hp, hostMove_free (s := s.untimedAt c) hp]
    exact hostStmt_timeless h { s with draws := s.draws + 1 } c
  | cons st prog =>
    rw [State.nextStmt, hp] at h
    rw [hostMove_stmt hp, hostMove_stmt (s := s.untimedAt c) hp]
    exact hostStmt_timeless h { s with hostProg := prog } c

theorem busMove_untimedAt {r : BusResult} (h : s.bus ≠ none) (c : BitVec 16) :
    busMove r (s.untimedAt c) = .next ((busComplete r s).untimedAt c) := by
  rw [busMove_due r (s := s.untimedAt c) h rfl]
  cases r <;> rfl

end Sys2Proof.Machine
end

section
/-! SUPPORT. Every step of the timed reading as moves of the untimed one (70_reset_and_hazards.md R275, R276). -/

namespace Sys2Proof.Machine

open Sys2Proof.Safety

variable {s t u : State} {m : Move} {ms ms' : List Move}

/-! ## `rst` stays -/

theorem HostEffect.rst (h : HostEffect s t) : t.rst = s.rst := by
  cases h with
  | note frame | clearErr _ frame | store _ frame | accept _ _ _ _ frame => exact (congrArg State.rst frame :)

theorem microStep_rst {m : Micro} (hb : s.busy = true) (h : microStep m s = .next t) : t.rst = s.rst := by
  cases m with
  | op i =>
    obtain hop | ⟨-, htick⟩ | ⟨-, rfl⟩ | ⟨-, rfl⟩ := exec_busy_cases hb h
    · exact (congrArg State.rst hop.frame :)
    · exact (congrArg State.rst htick.frame :)
    all_goals rfl
  | freqByte => exact (congrArg State.rst (microStep_freqByte_effect h).frame :)
  | dispatch =>
    obtain ⟨body, -, rfl⟩ := dispatchStep_cases h
    rfl
  | processBit =>
    obtain ⟨-, rfl⟩ | ⟨-, ⟨b, rfl⟩ | h | rfl⟩ := processBitStep_cases h
    · rfl
    · rfl
    · exact (congrArg State.rst (execModulate_effect h).frame :)
    · rfl
  | _ => cases h; rfl

theorem SeqEffect.rst (h : SeqEffect s t) : t.rst = s.rst := by
  cases h with
  | idle e => rw [e]
  | runs m rest busy bus seq micro => exact microStep_rst (s := { s with seq := rest }) busy micro

/-! ## Runs of untimed moves -/

/-- Some of the moves `ms`, in their order, take the state `s` in the untimed reading, whatever its TMR_COUNT, to the
state `t`. -/
def Follows (ms : List Move) (s t : State) : Prop :=
  ∀ c, ∃ ms' c', ms'.Sublist ms ∧ runMoves ms' (s.untimedAt c) = .next (t.untimedAt c')

theorem runMoves_append (ms ms' : List Move) (s : State) :
    runMoves (ms ++ ms') s = andThen (runMoves ms s) (runMoves ms') := by
  induction ms generalizing s with
  | nil => rfl
  | cons m ms ih =>
    rw [List.cons_append, runMoves, runMoves]
    cases stepMove m s with
    | next t => exact ih t
    | fault | refused => rfl

/-- A step that changes only what is out of sight is followed by no move. -/
theorem Follows.rests (h : untime t = untime s) : Follows ms s t := fun c =>
  ⟨[], c, List.nil_sublist ms, congrArg Host.Outcome.next (untimedAt_congr h c).symm⟩

theorem Follows.moves (h : ∀ c, ∃ c', stepMove m (s.untimedAt c) = .next (t.untimedAt c')) :
    Follows [m] s t := fun c =>
  have ⟨c', hc⟩ := h c
  ⟨[m], c', List.Sublist.refl [m], by rw [runMoves, hc]; rfl⟩

/-- An agent's step is followed by the same agent's move. -/
theorem Follows.agent {f : State → Result} (hr : s.rst = false)
    (hm : ∀ u, stepMove m u = if u.rst then .next u else f u)
    (h : ∀ c, ∃ c', f (s.untimedAt c) = .next (t.untimedAt c')) : Follows [m] s t := .moves fun c =>
  have ⟨c', hc⟩ := h c
  ⟨c', (hm _).trans ((if_neg (Bool.eq_false_iff.1 hr)).trans hc)⟩

/-- While `rst` is asserted no agent moves, and no move has to follow. -/
theorem Follows.unlessReset {f : State → Result} (h : (if s.rst then .next s else f s) = .next t)
    (hf : s.rst = false → f s = .next t → Follows ms s t) : Follows ms s t := by
  split at h
  · cases h; exact .rests rfl
  next hr => exact hf (Bool.eq_false_iff.2 hr) h

/-- Steps one after another are followed one after another, as in a clock cycle. -/
theorem Follows.trans (hst : Follows ms s t) (htu : Follows ms' t u) : Follows (ms ++ ms') s u := fun c => by
  obtain ⟨xs, c', hxs, hrun⟩ := hst c
  obtain ⟨ys, c'', hys, hrun'⟩ := htu c'
  exact ⟨xs ++ ys, c'', hxs.append hys, by rw [runMoves_append, hrun, andThen, hrun']⟩

/-! ## The agents -/

theorem hostMove_follows (hr : s.rst = false) (hread : readsTmrCount s.nextStmt = false) (h : hostMove s = .next t) :
    Follows [.host] s t :=
  .agent hr (fun _ => rfl) fun c => ⟨c, by rw [hostMove_untimedAt hread, h, andThen]⟩

/-- The untimed sequencer is free wherever the timed one is. -/
theorem seqMove_follows (hr : s.rst = false) (h : seqMove s = .next t) : Follows [.seq] s t := by
  cases seqMove_effect h with
  | idle e => exact .rests (by rw [e])
  | runs m rest busy bus seq micro =>
    refine .agent hr (fun _ => rfl) fun c => ?_
    rw [seqMove_next (s := s.untimedAt c) (sequencerFree_iff.2 ⟨busy, bus, rfl⟩) seq]
    exact microStep_untimedAt (s := { s with seq := rest }) micro c

theorem busMove_follows {r : BusResult} (hr : s.rst = false) (h : busMove r s = .next t) : Follows [.bus r] s t := by
  unfold busMove at h
  split at h <;> cases h
  next hdue =>
    obtain ⟨hbus, -⟩ := Bool.and_eq_true_iff.1 hdue
    exact .agent hr (fun _ => rfl) fun c => ⟨c, busMove_untimedAt (Option.isSome_iff_ne_none.1 hbus) c⟩
  next => exact .rests rfl

/-- An edge that ticks is a tick, and any other changes only what is out of sight. -/
theorem clockEdge_follows (hr : s.rst = false) (h : clockEdge s = .next t) : Follows [.tick] s t := by
  cases harmed : s.tmrArmed with
  | false => cases (clockEdge_disarmed harmed).symm.trans h; exact .rests rfl
  | true =>
    by_cases hcount : s.tmrCount = 0#16
    · rw [clockEdge_reloads harmed hcount] at h
      refine .agent hr (fun _ => rfl) fun c => ⟨c, ?_⟩
      rw [tickMove_untimed rfl]
      exact (if_pos harmed).trans ((exec_timeless .tick).answer h c)
    · cases (clockEdge_counts harmed hcount).symm.trans h; exact .rests rfl

theorem cycleEdge_follows {armed : Bool} (hr : s.rst = false) (h : cycleEdge armed s = .next t) :
    Follows [.tick] s t := by
  unfold cycleEdge at h
  split at h
  · cases h; exact .rests rfl
  · exact clockEdge_follows hr h

/-- A clock cycle is its host access or none, its micro-step or none, and its tick or none (R227). -/
theorem cycleMove_follows {a q : Bool} (hr : s.rst = false) (ht : s.cfg.reading = .timed)
    (hread : a = true → readsTmrCount s.nextStmt = false) (h : cycleMove a q s = .next t) :
    Follows [.host, .seq, .tick] s t := by
  rw [cycleMove, ht] at h
  obtain ⟨v, hv, hedge⟩ := andThen_next h
  obtain ⟨u, hhost, hseq⟩ := andThen_next hv
  obtain ⟨hsu, hru⟩ : Follows [.host] s u ∧ u.rst = false := by
    split at hhost
    next ha => exact ⟨hostMove_follows hr (hread ha) hhost, (hostMove_effect hhost).rst.trans hr⟩
    next => cases hhost; exact ⟨.rests rfl, hr⟩
  obtain ⟨huv, hrv⟩ : Follows [.seq] u v ∧ v.rst = false := by
    split at hseq
    · exact ⟨seqMove_follows hru hseq, (seqMove_effect hseq).rst.trans hru⟩
    · cases hseq; exact ⟨.rests rfl, hru⟩
  exact hsu.trans (huv.trans (cycleEdge_follows hrv hedge))

/-! ## Every move -/

/-- The reset values are the same in both readings. -/
theorem rstMove_follows {b : Bool} (h : stepMove (.rst b) s = .next t) : Follows [.rst b] s t := by
  refine .moves fun c => ?_
  simp only [stepMove] at h ⊢
  split at h <;> cases h
  next hb => exact ⟨0#16, if_pos hb⟩
  next hb => exact ⟨c, if_neg hb⟩

theorem stepMove_follows (ht : s.cfg.reading = .timed)
    (hread : (m = .host ∨ ∃ q, m = .cycle true q) → readsTmrCount s.nextStmt = false) (h : stepMove m s = .next t) :
    Follows (untimedMoves m) s t := by
  cases m with
  | host => exact .unlessReset h fun hr => hostMove_follows hr (hread (.inl rfl))
  | seq => exact .unlessReset h seqMove_follows
  | bus r => exact .unlessReset h busMove_follows
  | tick => exact .unlessReset h fun _ h => by rw [tickMove, ht] at h; cases h; exact .rests rfl
  | tclk => exact .unlessReset h fun hr h => clockEdge_follows hr (tclkMove_timed ht ▸ h)
  | cycle a q => exact .unlessReset h fun hr => cycleMove_follows hr ht fun ha => hread (.inr ⟨q, by rw [ha]⟩)
  | rst b => exact rstMove_follows h

/-- Settles O27: each agent's step is followed by the agent's own move or by none, and a clock cycle phase by phase; the
run starts with TMR_COUNT at 0. -/
theorem timedStepsAreUntimedSteps : Obligations.TimedStepsAreUntimedSteps := by
  intro s t m ht hread h
  obtain ⟨ms, c, hms, hrun⟩ := stepMove_follows ht hread h 0#16
  exact ⟨ms, t.untimedAt c, hms, by rwa [untime_eq_untimedAt], untime_untimedAt c t⟩

end Sys2Proof.Machine
end
